-- ==== Sys2Proof/Word.lean ====
section
/-! DEFINITION. The two widths of the machine: bytes and 16-bit words (spec R2, R4). -/

namespace Sys2Proof

/-- An 8-bit value: a register, a memory byte, an opcode (R2). -/
abbrev Byte := BitVec 8

/-- A 16-bit value: an address, a register pair, SP, PC, an untruncated ALU result (R2, R24). -/
abbrev Word := BitVec 16

end Sys2Proof
end

