-- ==== Sys2Proof/Machine/Bytes.lean ====
section
/-! DEFINITION. Bytes of a 16-bit value: bit placement and nothing else (spec R4, R13). -/

namespace Sys2Proof

/-- `v[15:8]`. -/
def highByte (v : Word) : Byte := v.extractLsb' 8 8

/-- `v[7:0]`. -/
def lowByte (v : Word) : Byte := v.extractLsb' 0 8

/-- `(high, low)` joined, high byte in bits 15 to 8 (R13). -/
def joinBytes (high low : Byte) : Word := high ++ low

end Sys2Proof
end

