-- ==== Sys2Proof/Syntax.lean ====
section
/-! DEFINITION. The instructions as syntax: one constructor per mnemonic of spec/opcode_table.json, and the operand forms
they are built from (spec R11, R13, R14, R62 to R67, R70). -/

namespace Sys2Proof

/-- The seven general registers (R11, R62). -/
inductive Reg8 where
  | b | c | d | e | h | l | a
  deriving DecidableEq, Repr

/-- The operand of a 3-bit register code: a register, or M, the memory byte at `{H, L}` (R62, R64). -/
inductive Operand8 where
  | reg (r : Reg8)
  | m
  deriving DecidableEq, Repr

/-- The three register pairs (R13). -/
inductive Pair where
  | bc | de | hl
  deriving DecidableEq, Repr

/-- The operand of the pair field of LXI, INX, DCX, DAD (R14, R63). -/
inductive Rp16 where
  | bc | de | hl | sp
  deriving DecidableEq, Repr

/-- The address pair of LDAX and STAX (R63, R134, R135). -/
inductive IndexPair where
  | bc | de
  deriving DecidableEq, Repr

/-- The operand of the pair field of PUSH and POP (R63, R140). -/
inductive StackPair where
  | bc | de | hl | psw
  deriving DecidableEq, Repr

/-- The eight accumulator operations of the field `alu` (R65). -/
inductive AluOp where
  | add | adc | sub | sbb | ana | xra | ora | cmp
  deriving DecidableEq, Repr

/-- The four rotates (R124). -/
inductive RotateOp where
  | rlc | rrc | ral | rar
  deriving DecidableEq, Repr

/-- The eight conditions of the field `ccc` (R67). -/
inductive Cond where
  | nz | z | nc | c | po | pe | p | m
  deriving DecidableEq, Repr

/-- One constructor per mnemonic of spec/opcode_table.json, in the order of the opcode map (R70). `d8`, `d16` and `a16` are
the operand bytes after the opcode (R68). `unimplemented` stands for the 48 rows of the mnemonic UNIMPLEMENTED and carries
the opcode byte (R71; assumption log 3). -/
inductive Instr where
  | lxiB (d16 : Word)
  | staxB
  | inxB
  | inrB
  | dcrB
  | mviB (d8 : Byte)
  | rlc
  | dadB
  | ldaxB
  | dcxB
  | inrC
  | dcrC
  | mviC (d8 : Byte)
  | rrc
  | lxiD (d16 : Word)
  | staxD
  | inxD
  | inrD
  | dcrD
  | mviD (d8 : Byte)
  | ral
  | dadD
  | ldaxD
  | dcxD
  | inrE
  | dcrE
  | mviE (d8 : Byte)
  | rar
  | lxiH (d16 : Word)
  | shld (a16 : Word)
  | inxH
  | inrH
  | dcrH
  | mviH (d8 : Byte)
  | dadH
  | lhld (a16 : Word)
  | dcxH
  | inrL
  | dcrL
  | mviL (d8 : Byte)
  | cma
  | lxiSp (d16 : Word)
  | sta (a16 : Word)
  | inxSp
  | inrM
  | dcrM
  | mviM (d8 : Byte)
  | stc
  | dadSp
  | lda (a16 : Word)
  | dcxSp
  | inrA
  | dcrA
  | mviA (d8 : Byte)
  | cmc
  | movBB
  | movBC
  | movBD
  | movBE
  | movBH
  | movBL
  | movBM
  | movBA
  | movCB
  | movCC
  | movCD
  | movCE
  | movCH
  | movCL
  | movCM
  | movCA
  | movDB
  | movDC
  | movDD
  | movDE
  | movDH
  | movDL
  | movDM
  | movDA
  | movEB
  | movEC
  | movED
  | movEE
  | movEH
  | movEL
  | movEM
  | movEA
  | movHB
  | movHC
  | movHD
  | movHE
  | movHH
  | movHL
  | movHM
  | movHA
  | movLB
  | movLC
  | movLD
  | movLE
  | movLH
  | movLL
  | movLM
  | movLA
  | movMB
  | movMC
  | movMD
  | movME
  | movMH
  | movML
  | hlt
  | movMA
  | movAB
  | movAC
  | movAD
  | movAE
  | movAH
  | movAL
  | movAM
  | movAA
  | addB
  | addC
  | addD
  | addE
  | addH
  | addL
  | addM
  | addA
  | adcB
  | adcC
  | adcD
  | adcE
  | adcH
  | adcL
  | adcM
  | adcA
  | subB
  | subC
  | subD
  | subE
  | subH
  | subL
  | subM
  | subA
  | sbbB
  | sbbC
  | sbbD
  | sbbE
  | sbbH
  | sbbL
  | sbbM
  | sbbA
  | anaB
  | anaC
  | anaD
  | anaE
  | anaH
  | anaL
  | anaM
  | anaA
  | xraB
  | xraC
  | xraD
  | xraE
  | xraH
  | xraL
  | xraM
  | xraA
  | oraB
  | oraC
  | oraD
  | oraE
  | oraH
  | oraL
  | oraM
  | oraA
  | cmpB
  | cmpC
  | cmpD
  | cmpE
  | cmpH
  | cmpL
  | cmpM
  | cmpA
  | popB
  | jnz (a16 : Word)
  | jmp (a16 : Word)
  | pushB
  | adi (d8 : Byte)
  | jz (a16 : Word)
  | aci (d8 : Byte)
  | popD
  | jnc (a16 : Word)
  | pushD
  | sui (d8 : Byte)
  | jc (a16 : Word)
  | sbi (d8 : Byte)
  | popH
  | jpo (a16 : Word)
  | pushH
  | ani (d8 : Byte)
  | jpe (a16 : Word)
  | xri (d8 : Byte)
  | popPsw
  | jp (a16 : Word)
  | pushPsw
  | ori (d8 : Byte)
  | jm (a16 : Word)
  | cpi (d8 : Byte)
  | unimplemented (opcode : Byte)
  deriving DecidableEq, Repr

/-- The instructions by pattern: the operation and the operand fields of the opcode byte (R61), with the operand bytes. -/
inductive Form where
  | mov (dst src : Operand8)
  | inr (o : Operand8)
  | dcr (o : Operand8)
  | inx (p : Rp16)
  | dcx (p : Rp16)
  | dad (p : Rp16)
  | alu (op : AluOp) (src : Operand8)
  | aluImm (op : AluOp) (d8 : Byte)
  | rotate (op : RotateOp)
  | mvi (dst : Operand8) (d8 : Byte)
  | lxi (p : Rp16) (d16 : Word)
  | sta (a16 : Word)
  | lda (a16 : Word)
  | shld (a16 : Word)
  | lhld (a16 : Word)
  | stax (p : IndexPair)
  | ldax (p : IndexPair)
  | push (p : StackPair)
  | pop (p : StackPair)
  | jmp (a16 : Word)
  | jcc (ccc : Cond) (a16 : Word)
  | hlt
  | cma
  | stc
  | cmc
  | unimplemented (opcode : Byte)
  deriving DecidableEq, Repr

end Sys2Proof
end

