-- ==== Sys2Proof/WellFormed.lean ====
section
/-! DEFINITION. Which instruction terms stand for an encoding (spec R60, R68, R71). -/

namespace Sys2Proof

/-- The 48 opcode bytes that are not implemented, in the rows of R168. -/
def unimplementedOpcodes : List Byte :=
  [0x00] ++ [0x08, 0x10, 0x18, 0x20, 0x28, 0x30, 0x38] ++ [0x27] ++
  [0xC0, 0xC8, 0xD0, 0xD8, 0xE0, 0xE8, 0xF0, 0xF8] ++ [0xC9] ++
  [0xC4, 0xCC, 0xD4, 0xDC, 0xE4, 0xEC, 0xF4, 0xFC] ++ [0xCD] ++
  [0xC7, 0xCF, 0xD7, 0xDF, 0xE7, 0xEF, 0xF7, 0xFF] ++ [0xD3, 0xDB] ++
  [0xE3, 0xE9, 0xEB, 0xF9] ++ [0xF3, 0xFB] ++ [0xCB, 0xD9, 0xDD, 0xED, 0xFD]

/-- An implemented instruction takes any operand bytes (R68); an unimplemented one carries one of the 48 bytes (R71). -/
def Instr.wellFormed : Instr → Bool
  | .unimplemented opcode => unimplementedOpcodes.contains opcode
  | .lxiB _ | .staxB | .inxB | .inrB | .dcrB | .mviB _ | .rlc | .dadB | .ldaxB | .dcxB | .inrC | .dcrC | .mviC _
  | .rrc | .lxiD _ | .staxD | .inxD | .inrD | .dcrD | .mviD _ | .ral | .dadD | .ldaxD | .dcxD | .inrE | .dcrE
  | .mviE _ | .rar | .lxiH _ | .shld _ | .inxH | .inrH | .dcrH | .mviH _ | .dadH | .lhld _ | .dcxH | .inrL | .dcrL
  | .mviL _ | .cma | .lxiSp _ | .sta _ | .inxSp | .inrM | .dcrM | .mviM _ | .stc | .dadSp | .lda _ | .dcxSp | .inrA
  | .dcrA | .mviA _ | .cmc | .movBB | .movBC | .movBD | .movBE | .movBH | .movBL | .movBM | .movBA | .movCB | .movCC
  | .movCD | .movCE | .movCH | .movCL | .movCM | .movCA | .movDB | .movDC | .movDD | .movDE | .movDH | .movDL
  | .movDM | .movDA | .movEB | .movEC | .movED | .movEE | .movEH | .movEL | .movEM | .movEA | .movHB | .movHC
  | .movHD | .movHE | .movHH | .movHL | .movHM | .movHA | .movLB | .movLC | .movLD | .movLE | .movLH | .movLL
  | .movLM | .movLA | .movMB | .movMC | .movMD | .movME | .movMH | .movML | .hlt | .movMA | .movAB | .movAC | .movAD
  | .movAE | .movAH | .movAL | .movAM | .movAA | .addB | .addC | .addD | .addE | .addH | .addL | .addM | .addA
  | .adcB | .adcC | .adcD | .adcE | .adcH | .adcL | .adcM | .adcA | .subB | .subC | .subD | .subE | .subH | .subL
  | .subM | .subA | .sbbB | .sbbC | .sbbD | .sbbE | .sbbH | .sbbL | .sbbM | .sbbA | .anaB | .anaC | .anaD | .anaE
  | .anaH | .anaL | .anaM | .anaA | .xraB | .xraC | .xraD | .xraE | .xraH | .xraL | .xraM | .xraA | .oraB | .oraC
  | .oraD | .oraE | .oraH | .oraL | .oraM | .oraA | .cmpB | .cmpC | .cmpD | .cmpE | .cmpH | .cmpL | .cmpM | .cmpA
  | .popB | .jnz _ | .jmp _ | .pushB | .adi _ | .jz _ | .aci _ | .popD | .jnc _ | .pushD | .sui _ | .jc _ | .sbi _
  | .popH | .jpo _ | .pushH | .ani _ | .jpe _ | .xri _ | .popPsw | .jp _ | .pushPsw | .ori _ | .jm _ | .cpi _ => true

end Sys2Proof
end

