-- ==== Sys2Proof/Decode.lean ====
section
/-! DEFINITION. The decoder, from the opcode map of spec R70, and after it the encoder, from the patterns of R61 and the
field codes of R62 to R67. The numbers of both are the spec's general knowledge (D1, G1 to G5; assumption log 2). -/

namespace Sys2Proof

/-- An entry of the opcode map: how many bytes the instruction has and which it is (R60, R70). -/
inductive OpcodeEntry where
  | absent                        -- `--`: not implemented (R71)
  | one (i : Instr)               -- format F1
  | two (i : Byte → Instr)        -- format F2, an 8-bit immediate
  | three (i : Word → Instr)      -- format F3, a 16-bit operand, low byte first

/-- Row 0x of the opcode map, columns x0 to xF (R70). -/
def opcodeRow0 : List OpcodeEntry :=
  [.absent, .three .lxiB, .one .staxB, .one .inxB, .one .inrB, .one .dcrB, .two .mviB, .one .rlc, .absent,
   .one .dadB, .one .ldaxB, .one .dcxB, .one .inrC, .one .dcrC, .two .mviC, .one .rrc]

/-- Row 1x of the opcode map, columns x0 to xF (R70). -/
def opcodeRow1 : List OpcodeEntry :=
  [.absent, .three .lxiD, .one .staxD, .one .inxD, .one .inrD, .one .dcrD, .two .mviD, .one .ral, .absent,
   .one .dadD, .one .ldaxD, .one .dcxD, .one .inrE, .one .dcrE, .two .mviE, .one .rar]

/-- Row 2x of the opcode map, columns x0 to xF (R70). -/
def opcodeRow2 : List OpcodeEntry :=
  [.absent, .three .lxiH, .three .shld, .one .inxH, .one .inrH, .one .dcrH, .two .mviH, .absent, .absent, .one .dadH,
   .three .lhld, .one .dcxH, .one .inrL, .one .dcrL, .two .mviL, .one .cma]

/-- Row 3x of the opcode map, columns x0 to xF (R70). -/
def opcodeRow3 : List OpcodeEntry :=
  [.absent, .three .lxiSp, .three .sta, .one .inxSp, .one .inrM, .one .dcrM, .two .mviM, .one .stc, .absent,
   .one .dadSp, .three .lda, .one .dcxSp, .one .inrA, .one .dcrA, .two .mviA, .one .cmc]

/-- Row 4x of the opcode map, columns x0 to xF (R70). -/
def opcodeRow4 : List OpcodeEntry :=
  [.one .movBB, .one .movBC, .one .movBD, .one .movBE, .one .movBH, .one .movBL, .one .movBM, .one .movBA,
   .one .movCB, .one .movCC, .one .movCD, .one .movCE, .one .movCH, .one .movCL, .one .movCM, .one .movCA]

/-- Row 5x of the opcode map, columns x0 to xF (R70). -/
def opcodeRow5 : List OpcodeEntry :=
  [.one .movDB, .one .movDC, .one .movDD, .one .movDE, .one .movDH, .one .movDL, .one .movDM, .one .movDA,
   .one .movEB, .one .movEC, .one .movED, .one .movEE, .one .movEH, .one .movEL, .one .movEM, .one .movEA]

/-- Row 6x of the opcode map, columns x0 to xF (R70). -/
def opcodeRow6 : List OpcodeEntry :=
  [.one .movHB, .one .movHC, .one .movHD, .one .movHE, .one .movHH, .one .movHL, .one .movHM, .one .movHA,
   .one .movLB, .one .movLC, .one .movLD, .one .movLE, .one .movLH, .one .movLL, .one .movLM, .one .movLA]

/-- Row 7x of the opcode map, columns x0 to xF (R70). -/
def opcodeRow7 : List OpcodeEntry :=
  [.one .movMB, .one .movMC, .one .movMD, .one .movME, .one .movMH, .one .movML, .one .hlt, .one .movMA, .one .movAB,
   .one .movAC, .one .movAD, .one .movAE, .one .movAH, .one .movAL, .one .movAM, .one .movAA]

/-- Row 8x of the opcode map, columns x0 to xF (R70). -/
def opcodeRow8 : List OpcodeEntry :=
  [.one .addB, .one .addC, .one .addD, .one .addE, .one .addH, .one .addL, .one .addM, .one .addA, .one .adcB,
   .one .adcC, .one .adcD, .one .adcE, .one .adcH, .one .adcL, .one .adcM, .one .adcA]

/-- Row 9x of the opcode map, columns x0 to xF (R70). -/
def opcodeRow9 : List OpcodeEntry :=
  [.one .subB, .one .subC, .one .subD, .one .subE, .one .subH, .one .subL, .one .subM, .one .subA, .one .sbbB,
   .one .sbbC, .one .sbbD, .one .sbbE, .one .sbbH, .one .sbbL, .one .sbbM, .one .sbbA]

/-- Row Ax of the opcode map, columns x0 to xF (R70). -/
def opcodeRowA : List OpcodeEntry :=
  [.one .anaB, .one .anaC, .one .anaD, .one .anaE, .one .anaH, .one .anaL, .one .anaM, .one .anaA, .one .xraB,
   .one .xraC, .one .xraD, .one .xraE, .one .xraH, .one .xraL, .one .xraM, .one .xraA]

/-- Row Bx of the opcode map, columns x0 to xF (R70). -/
def opcodeRowB : List OpcodeEntry :=
  [.one .oraB, .one .oraC, .one .oraD, .one .oraE, .one .oraH, .one .oraL, .one .oraM, .one .oraA, .one .cmpB,
   .one .cmpC, .one .cmpD, .one .cmpE, .one .cmpH, .one .cmpL, .one .cmpM, .one .cmpA]

/-- Row Cx of the opcode map, columns x0 to xF (R70). -/
def opcodeRowC : List OpcodeEntry :=
  [.absent, .one .popB, .three .jnz, .three .jmp, .absent, .one .pushB, .two .adi, .absent, .absent, .absent,
   .three .jz, .absent, .absent, .absent, .two .aci, .absent]

/-- Row Dx of the opcode map, columns x0 to xF (R70). -/
def opcodeRowD : List OpcodeEntry :=
  [.absent, .one .popD, .three .jnc, .absent, .absent, .one .pushD, .two .sui, .absent, .absent, .absent, .three .jc,
   .absent, .absent, .absent, .two .sbi, .absent]

/-- Row Ex of the opcode map, columns x0 to xF (R70). -/
def opcodeRowE : List OpcodeEntry :=
  [.absent, .one .popH, .three .jpo, .absent, .absent, .one .pushH, .two .ani, .absent, .absent, .absent,
   .three .jpe, .absent, .absent, .absent, .two .xri, .absent]

/-- Row Fx of the opcode map, columns x0 to xF (R70). -/
def opcodeRowF : List OpcodeEntry :=
  [.absent, .one .popPsw, .three .jp, .absent, .absent, .one .pushPsw, .two .ori, .absent, .absent, .absent,
   .three .jm, .absent, .absent, .absent, .two .cpi, .absent]

/-- The opcode map, one row per high nibble (R70). -/
def opcodeMap : List (List OpcodeEntry) :=
  [opcodeRow0, opcodeRow1, opcodeRow2, opcodeRow3, opcodeRow4, opcodeRow5, opcodeRow6, opcodeRow7] ++
  [opcodeRow8, opcodeRow9, opcodeRowA, opcodeRowB, opcodeRowC, opcodeRowD, opcodeRowE, opcodeRowF]

/-- The entry of an opcode byte (R69, R70, R74). -/
def opcodeEntry (opcode : Byte) : OpcodeEntry :=
  (opcodeMap.getD (opcode.toNat / 16) []).getD (opcode.toNat % 16) .absent

/-- The instruction an opcode byte selects, given the bytes after it as a byte and as a 16-bit value (R68, R74). -/
def decodeOpcode (opcode d8 : Byte) (d16 : Word) : Instr :=
  match opcodeEntry opcode with
  | .absent => .unimplemented opcode
  | .one i => i
  | .two i => i d8
  | .three i => i d16

/-- Why a byte sequence is not an instruction: the decoder answers on every opcode byte, so only missing bytes are rejected. -/
inductive DecodeReject where
  /-- There is no opcode byte. -/
  | noOpcode
  /-- The instruction has an operand byte that the sequence does not hold. -/
  | operandMissing (opcode : Byte)
  deriving DecidableEq, Repr

/-- The first instruction of a byte sequence and the bytes after it (R60, R69, R74). No operand byte of an unimplemented
opcode is read (D30). -/
def decode : List Byte → Except DecodeReject (Instr × List Byte)
  | [] => .error .noOpcode
  | opcode :: rest =>
    match opcodeEntry opcode, rest with
    | .absent, rest => .ok (.unimplemented opcode, rest)
    | .one i, rest => .ok (i, rest)
    | .two i, d8 :: rest => .ok (i d8, rest)
    | .three i, low :: high :: rest => .ok (i (joinBytes high low), rest)
    | .two _, [] => .error (.operandMissing opcode)
    | .three _, [] => .error (.operandMissing opcode)
    | .three _, [_] => .error (.operandMissing opcode)

/-! ### The encoder -/

/-- Register codes (R62). -/
def Reg8.code : Reg8 → BitVec 3
  | .b => 0b000
  | .c => 0b001
  | .d => 0b010
  | .e => 0b011
  | .h => 0b100
  | .l => 0b101
  | .a => 0b111

/-- The codes of the 8-bit operands; 110 is M (R62). -/
def Operand8.code : Operand8 → BitVec 3
  | .reg r => r.code
  | .m => 0b110

/-- Pair codes of LXI, INX, DCX, DAD (R63). -/
def Rp16.code : Rp16 → BitVec 2
  | .bc => 0b00
  | .de => 0b01
  | .hl => 0b10
  | .sp => 0b11

/-- Pair codes of PUSH, POP (R63, R140). -/
def StackPair.code : StackPair → BitVec 2
  | .bc => 0b00
  | .de => 0b01
  | .hl => 0b10
  | .psw => 0b11

/-- Pair codes of LDAX, STAX (R61, R63). -/
def IndexPair.code : IndexPair → BitVec 1
  | .bc => 0b0
  | .de => 0b1

/-- Operation codes (R65). -/
def AluOp.code : AluOp → BitVec 3
  | .add => 0b000
  | .adc => 0b001
  | .sub => 0b010
  | .sbb => 0b011
  | .ana => 0b100
  | .xra => 0b101
  | .ora => 0b110
  | .cmp => 0b111

/-- Bits 4 and 3 of the rotates' opcodes (R61). -/
def RotateOp.code : RotateOp → BitVec 2
  | .rlc => 0b00
  | .rrc => 0b01
  | .ral => 0b10
  | .rar => 0b11

/-- Condition codes (R67). -/
def Cond.code : Cond → BitVec 3
  | .nz => 0b000
  | .z => 0b001
  | .nc => 0b010
  | .c => 0b011
  | .po => 0b100
  | .pe => 0b101
  | .p => 0b110
  | .m => 0b111

/-- The opcode byte of a form, bit by bit from the patterns (R61). -/
def Form.opcode : Form → Byte
  | .mov dst src => 0b01#2 ++ dst.code ++ src.code
  | .inr o => 0b00#2 ++ o.code ++ 0b100#3
  | .dcr o => 0b00#2 ++ o.code ++ 0b101#3
  | .inx p => 0b00#2 ++ p.code ++ 0b0011#4
  | .dcx p => 0b00#2 ++ p.code ++ 0b1011#4
  | .dad p => 0b00#2 ++ p.code ++ 0b1001#4
  | .alu op src => 0b10#2 ++ op.code ++ src.code
  | .aluImm op _ => 0b11#2 ++ op.code ++ 0b110#3
  | .rotate op => 0b000#3 ++ op.code ++ 0b111#3
  | .mvi dst _ => 0b00#2 ++ dst.code ++ 0b110#3
  | .lxi p _ => 0b00#2 ++ p.code ++ 0b0001#4
  | .sta _ => 0b00110010
  | .lda _ => 0b00111010
  | .shld _ => 0b00100010
  | .lhld _ => 0b00101010
  | .stax p => 0b000#3 ++ p.code ++ 0b0010#4
  | .ldax p => 0b000#3 ++ p.code ++ 0b1010#4
  | .push p => 0b11#2 ++ p.code ++ 0b0101#4
  | .pop p => 0b11#2 ++ p.code ++ 0b0001#4
  | .jmp _ => 0b11000011
  | .jcc ccc _ => 0b11#2 ++ ccc.code ++ 0b010#3
  | .hlt => 0b01110110
  | .cma => 0b00101111
  | .stc => 0b00110111
  | .cmc => 0b00111111
  | .unimplemented opcode => opcode

/-- The operand bytes of a form, the low byte of a 16-bit operand first (R60, R68). -/
def Form.operandBytes : Form → List Byte
  | .aluImm _ d8 => [d8]
  | .mvi _ d8 => [d8]
  | .lxi _ d16 => [lowByte d16, highByte d16]
  | .sta a16 => [lowByte a16, highByte a16]
  | .lda a16 => [lowByte a16, highByte a16]
  | .shld a16 => [lowByte a16, highByte a16]
  | .lhld a16 => [lowByte a16, highByte a16]
  | .jmp a16 => [lowByte a16, highByte a16]
  | .jcc _ a16 => [lowByte a16, highByte a16]
  | .mov _ _ => []
  | .inr _ => []
  | .dcr _ => []
  | .inx _ => []
  | .dcx _ => []
  | .dad _ => []
  | .alu _ _ => []
  | .rotate _ => []
  | .stax _ => []
  | .ldax _ => []
  | .push _ => []
  | .pop _ => []
  | .hlt => []
  | .cma => []
  | .stc => []
  | .cmc => []
  | .unimplemented _ => []

/-- The pattern and the operand fields of each instruction (R61 to R67). -/
def Instr.form : Instr → Form
  | .lxiB d16 => .lxi .bc d16
  | .staxB => .stax .bc
  | .inxB => .inx .bc
  | .inrB => .inr (.reg .b)
  | .dcrB => .dcr (.reg .b)
  | .mviB d8 => .mvi (.reg .b) d8
  | .rlc => .rotate .rlc
  | .dadB => .dad .bc
  | .ldaxB => .ldax .bc
  | .dcxB => .dcx .bc
  | .inrC => .inr (.reg .c)
  | .dcrC => .dcr (.reg .c)
  | .mviC d8 => .mvi (.reg .c) d8
  | .rrc => .rotate .rrc
  | .lxiD d16 => .lxi .de d16
  | .staxD => .stax .de
  | .inxD => .inx .de
  | .inrD => .inr (.reg .d)
  | .dcrD => .dcr (.reg .d)
  | .mviD d8 => .mvi (.reg .d) d8
  | .ral => .rotate .ral
  | .dadD => .dad .de
  | .ldaxD => .ldax .de
  | .dcxD => .dcx .de
  | .inrE => .inr (.reg .e)
  | .dcrE => .dcr (.reg .e)
  | .mviE d8 => .mvi (.reg .e) d8
  | .rar => .rotate .rar
  | .lxiH d16 => .lxi .hl d16
  | .shld a16 => .shld a16
  | .inxH => .inx .hl
  | .inrH => .inr (.reg .h)
  | .dcrH => .dcr (.reg .h)
  | .mviH d8 => .mvi (.reg .h) d8
  | .dadH => .dad .hl
  | .lhld a16 => .lhld a16
  | .dcxH => .dcx .hl
  | .inrL => .inr (.reg .l)
  | .dcrL => .dcr (.reg .l)
  | .mviL d8 => .mvi (.reg .l) d8
  | .cma => .cma
  | .lxiSp d16 => .lxi .sp d16
  | .sta a16 => .sta a16
  | .inxSp => .inx .sp
  | .inrM => .inr .m
  | .dcrM => .dcr .m
  | .mviM d8 => .mvi .m d8
  | .stc => .stc
  | .dadSp => .dad .sp
  | .lda a16 => .lda a16
  | .dcxSp => .dcx .sp
  | .inrA => .inr (.reg .a)
  | .dcrA => .dcr (.reg .a)
  | .mviA d8 => .mvi (.reg .a) d8
  | .cmc => .cmc
  | .movBB => .mov (.reg .b) (.reg .b)
  | .movBC => .mov (.reg .b) (.reg .c)
  | .movBD => .mov (.reg .b) (.reg .d)
  | .movBE => .mov (.reg .b) (.reg .e)
  | .movBH => .mov (.reg .b) (.reg .h)
  | .movBL => .mov (.reg .b) (.reg .l)
  | .movBM => .mov (.reg .b) .m
  | .movBA => .mov (.reg .b) (.reg .a)
  | .movCB => .mov (.reg .c) (.reg .b)
  | .movCC => .mov (.reg .c) (.reg .c)
  | .movCD => .mov (.reg .c) (.reg .d)
  | .movCE => .mov (.reg .c) (.reg .e)
  | .movCH => .mov (.reg .c) (.reg .h)
  | .movCL => .mov (.reg .c) (.reg .l)
  | .movCM => .mov (.reg .c) .m
  | .movCA => .mov (.reg .c) (.reg .a)
  | .movDB => .mov (.reg .d) (.reg .b)
  | .movDC => .mov (.reg .d) (.reg .c)
  | .movDD => .mov (.reg .d) (.reg .d)
  | .movDE => .mov (.reg .d) (.reg .e)
  | .movDH => .mov (.reg .d) (.reg .h)
  | .movDL => .mov (.reg .d) (.reg .l)
  | .movDM => .mov (.reg .d) .m
  | .movDA => .mov (.reg .d) (.reg .a)
  | .movEB => .mov (.reg .e) (.reg .b)
  | .movEC => .mov (.reg .e) (.reg .c)
  | .movED => .mov (.reg .e) (.reg .d)
  | .movEE => .mov (.reg .e) (.reg .e)
  | .movEH => .mov (.reg .e) (.reg .h)
  | .movEL => .mov (.reg .e) (.reg .l)
  | .movEM => .mov (.reg .e) .m
  | .movEA => .mov (.reg .e) (.reg .a)
  | .movHB => .mov (.reg .h) (.reg .b)
  | .movHC => .mov (.reg .h) (.reg .c)
  | .movHD => .mov (.reg .h) (.reg .d)
  | .movHE => .mov (.reg .h) (.reg .e)
  | .movHH => .mov (.reg .h) (.reg .h)
  | .movHL => .mov (.reg .h) (.reg .l)
  | .movHM => .mov (.reg .h) .m
  | .movHA => .mov (.reg .h) (.reg .a)
  | .movLB => .mov (.reg .l) (.reg .b)
  | .movLC => .mov (.reg .l) (.reg .c)
  | .movLD => .mov (.reg .l) (.reg .d)
  | .movLE => .mov (.reg .l) (.reg .e)
  | .movLH => .mov (.reg .l) (.reg .h)
  | .movLL => .mov (.reg .l) (.reg .l)
  | .movLM => .mov (.reg .l) .m
  | .movLA => .mov (.reg .l) (.reg .a)
  | .movMB => .mov .m (.reg .b)
  | .movMC => .mov .m (.reg .c)
  | .movMD => .mov .m (.reg .d)
  | .movME => .mov .m (.reg .e)
  | .movMH => .mov .m (.reg .h)
  | .movML => .mov .m (.reg .l)
  | .hlt => .hlt
  | .movMA => .mov .m (.reg .a)
  | .movAB => .mov (.reg .a) (.reg .b)
  | .movAC => .mov (.reg .a) (.reg .c)
  | .movAD => .mov (.reg .a) (.reg .d)
  | .movAE => .mov (.reg .a) (.reg .e)
  | .movAH => .mov (.reg .a) (.reg .h)
  | .movAL => .mov (.reg .a) (.reg .l)
  | .movAM => .mov (.reg .a) .m
  | .movAA => .mov (.reg .a) (.reg .a)
  | .addB => .alu .add (.reg .b)
  | .addC => .alu .add (.reg .c)
  | .addD => .alu .add (.reg .d)
  | .addE => .alu .add (.reg .e)
  | .addH => .alu .add (.reg .h)
  | .addL => .alu .add (.reg .l)
  | .addM => .alu .add .m
  | .addA => .alu .add (.reg .a)
  | .adcB => .alu .adc (.reg .b)
  | .adcC => .alu .adc (.reg .c)
  | .adcD => .alu .adc (.reg .d)
  | .adcE => .alu .adc (.reg .e)
  | .adcH => .alu .adc (.reg .h)
  | .adcL => .alu .adc (.reg .l)
  | .adcM => .alu .adc .m
  | .adcA => .alu .adc (.reg .a)
  | .subB => .alu .sub (.reg .b)
  | .subC => .alu .sub (.reg .c)
  | .subD => .alu .sub (.reg .d)
  | .subE => .alu .sub (.reg .e)
  | .subH => .alu .sub (.reg .h)
  | .subL => .alu .sub (.reg .l)
  | .subM => .alu .sub .m
  | .subA => .alu .sub (.reg .a)
  | .sbbB => .alu .sbb (.reg .b)
  | .sbbC => .alu .sbb (.reg .c)
  | .sbbD => .alu .sbb (.reg .d)
  | .sbbE => .alu .sbb (.reg .e)
  | .sbbH => .alu .sbb (.reg .h)
  | .sbbL => .alu .sbb (.reg .l)
  | .sbbM => .alu .sbb .m
  | .sbbA => .alu .sbb (.reg .a)
  | .anaB => .alu .ana (.reg .b)
  | .anaC => .alu .ana (.reg .c)
  | .anaD => .alu .ana (.reg .d)
  | .anaE => .alu .ana (.reg .e)
  | .anaH => .alu .ana (.reg .h)
  | .anaL => .alu .ana (.reg .l)
  | .anaM => .alu .ana .m
  | .anaA => .alu .ana (.reg .a)
  | .xraB => .alu .xra (.reg .b)
  | .xraC => .alu .xra (.reg .c)
  | .xraD => .alu .xra (.reg .d)
  | .xraE => .alu .xra (.reg .e)
  | .xraH => .alu .xra (.reg .h)
  | .xraL => .alu .xra (.reg .l)
  | .xraM => .alu .xra .m
  | .xraA => .alu .xra (.reg .a)
  | .oraB => .alu .ora (.reg .b)
  | .oraC => .alu .ora (.reg .c)
  | .oraD => .alu .ora (.reg .d)
  | .oraE => .alu .ora (.reg .e)
  | .oraH => .alu .ora (.reg .h)
  | .oraL => .alu .ora (.reg .l)
  | .oraM => .alu .ora .m
  | .oraA => .alu .ora (.reg .a)
  | .cmpB => .alu .cmp (.reg .b)
  | .cmpC => .alu .cmp (.reg .c)
  | .cmpD => .alu .cmp (.reg .d)
  | .cmpE => .alu .cmp (.reg .e)
  | .cmpH => .alu .cmp (.reg .h)
  | .cmpL => .alu .cmp (.reg .l)
  | .cmpM => .alu .cmp .m
  | .cmpA => .alu .cmp (.reg .a)
  | .popB => .pop .bc
  | .jnz a16 => .jcc .nz a16
  | .jmp a16 => .jmp a16
  | .pushB => .push .bc
  | .adi d8 => .aluImm .add d8
  | .jz a16 => .jcc .z a16
  | .aci d8 => .aluImm .adc d8
  | .popD => .pop .de
  | .jnc a16 => .jcc .nc a16
  | .pushD => .push .de
  | .sui d8 => .aluImm .sub d8
  | .jc a16 => .jcc .c a16
  | .sbi d8 => .aluImm .sbb d8
  | .popH => .pop .hl
  | .jpo a16 => .jcc .po a16
  | .pushH => .push .hl
  | .ani d8 => .aluImm .ana d8
  | .jpe a16 => .jcc .pe a16
  | .xri d8 => .aluImm .xra d8
  | .popPsw => .pop .psw
  | .jp a16 => .jcc .p a16
  | .pushPsw => .push .psw
  | .ori d8 => .aluImm .ora d8
  | .jm a16 => .jcc .m a16
  | .cpi d8 => .aluImm .cmp d8
  | .unimplemented opcode => .unimplemented opcode

/-- The bytes of an instruction (R60, R61). -/
def encode (i : Instr) : List Byte := i.form.opcode :: i.form.operandBytes

/-- An instruction's length in bytes (R60); the one byte read of an unimplemented opcode counts as 1. -/
def Instr.length (i : Instr) : Nat := (encode i).length

/-! ### The host's view of the opcode table -/

/-- The bits of an instruction numbered as spec/opcode_table.json numbers them: bit 0 the least significant bit of the first
byte, the bits from `nbits` up zero. The opcode byte is the whole of a row's fixed bits, so `nbits` is read as at least 8. -/
def tableWord (nbits w : Nat) : BitVec 24 := BitVec.ofNat 24 (w % 2 ^ max nbits 8)

/-- The instruction the decoder reads from an instruction whose bits are `w`. -/
def decodeTableWord (nbits w : Nat) : Option Instr :=
  let v := tableWord nbits w
  match decode [v.extractLsb' 0 8, v.extractLsb' 8 8, v.extractLsb' 16 8] with
  | .ok (i, _) => some i
  | .error _ => none

end Sys2Proof
end

