-- ==== Sys2Proof/Config.lean ====
section
/-! DEFINITION. The one open parameter of the hardware, AC_RULE (spec R3, R28), and the instances of it that the spec names (R29). -/

namespace Sys2Proof

/-- The `kind` argument of AC_RULE: the operation of the AC-writing set (R28).
An immediate form has the kind of its register form. -/
inductive AcKind where
  | add | adc | sub | sbb | cmp | ana | xra | ora | inr | dcr
  deriving DecidableEq, Repr

/-- AC_RULE(kind, a, b, cin, old_ac), the value AC takes after an instruction of the AC-writing set (R3, R28, D8).
The spec leaves its value open, so it has no body: a claim holds for every such function (assumption log 1). -/
opaque Config.acRule : AcKind → Byte → Byte → Bool → Bool → Bool

/-- The carry out of bit 3 of the 4-bit addition of `x`, `y` and a carry-in. -/
def Config.carryOutOfBit3 (x y : Byte) (cin : Bool) : Bool :=
  decide (0x0F < x.toNat % 16 + y.toNat % 16 + cin.toNat)

/-- AC_STD8080 (R29), the recommended and not normative instance of AC_RULE; no meaning of the model uses it. -/
def Config.acStd8080 : AcKind → Byte → Byte → Bool → Bool → Bool
  | .add, a, b, _, _ => carryOutOfBit3 a b false
  | .adc, a, b, cin, _ => carryOutOfBit3 a b cin
  | .sub, a, b, _, _ => carryOutOfBit3 a (~~~b) true
  | .sbb, a, b, cin, _ => carryOutOfBit3 a (~~~b) (!cin)
  | .cmp, a, b, _, _ => carryOutOfBit3 a (~~~b) true
  | .ana, a, b, _, _ => (a ||| b).getLsbD 3
  | .xra, _, _, _, _ => false
  | .ora, _, _, _, _ => false
  | .inr, a, _, _, _ => carryOutOfBit3 a 0x01 false
  | .dcr, a, _, _, _ => carryOutOfBit3 a 0x0F false

/-- AC_KEEP (R29): AC stays as it was. -/
def Config.acKeep : AcKind → Byte → Byte → Bool → Bool → Bool
  | _, _, _, _, oldAc => oldAc

/-- AC_ZERO (R29): AC is cleared. -/
def Config.acZero : AcKind → Byte → Byte → Bool → Bool → Bool
  | _, _, _, _, _ => false

end Sys2Proof
end

