-- ==== Sys2Proof/Machine/Memory.lean ====
section
/-! DEFINITION. The memory array MEM[0..65535] (spec R33) as the list of its bytes that are not 0x00, addresses strictly rising. -/

namespace Sys2Proof.Machine

/-- The memory array. An address that is not listed holds `Memory.unlisted`. -/
abbrev Memory := List Host.Cell

/-- What an unlisted address reads as: memory beyond the image is 0x00 at reset (R33, R35). -/
def Memory.unlisted : Byte := 0x00

/-- The number of addresses, 0 to 0xFFFF (R2, R33). -/
def Memory.size : Nat := 65536

/-- `MEM[addr]`. -/
def Memory.read : Memory → Nat → Byte
  | [], _ => Memory.unlisted
  | (k, v) :: m, addr => if k = addr then v else Memory.read m addr

/-- The memory without an entry for `addr`. -/
def Memory.remove : Memory → Nat → Memory
  | [], _ => []
  | (k, v) :: m, addr => if k = addr then Memory.remove m addr else (k, v) :: Memory.remove m addr

/-- The memory with an entry put in front of the first higher address. -/
def Memory.place : Memory → Nat → Byte → Memory
  | [], addr, b => [(addr, b)]
  | (k, v) :: m, addr, b => if addr < k then (addr, b) :: (k, v) :: m else (k, v) :: Memory.place m addr b

/-- `MEM[addr] <- b`. Writing what an unlisted address reads as removes the entry, so that equal memories are equal lists. -/
def Memory.write (m : Memory) (addr : Nat) (b : Byte) : Memory :=
  if b = Memory.unlisted then Memory.remove m addr else Memory.place (Memory.remove m addr) addr b

/-- The canonical form from address `low` up: addresses rise strictly and lie below `Memory.size`, and no entry holds
what an unlisted address reads as. -/
def Memory.wfFrom : Nat → Memory → Bool
  | _, [] => true
  | low, (k, v) :: m =>
    decide (low ≤ k) && decide (k < Memory.size) && decide (v ≠ Memory.unlisted) && Memory.wfFrom (k + 1) m

/-- The canonical form of a memory. -/
def Memory.wf (m : Memory) : Bool := Memory.wfFrom 0 m

/-- The memory that holds `image` from address `start` up and 0x00 elsewhere (R193). -/
def Memory.ofImage : Nat → List Byte → Memory
  | _, [] => []
  | start, b :: image =>
    if b = Memory.unlisted then Memory.ofImage (start + 1) image
    else (start, b) :: Memory.ofImage (start + 1) image

end Sys2Proof.Machine
end

