-- ==== Sys2Proof/Machine/State.lean ====
section
/-! DEFINITION. The state of the CORE as plain data (spec R10), the reasons a step or a reset can stop, and the state after reset (R35). -/

namespace Sys2Proof.Machine

/-- RUN, the run state (R31). HALTED and FAULTED are terminal. -/
inductive RunState where
  | running | halted | faulted
  deriving DecidableEq, Repr

/-- The five condition flags, five separate bits of state (R20). -/
structure Flags where
  z  : Bool
  s  : Bool
  p  : Bool
  cy : Bool
  ac : Bool
  deriving DecidableEq, Repr

/-- The complete architectural state (R10). -/
structure State where
  a : Byte
  b : Byte
  c : Byte
  d : Byte
  e : Byte
  h : Byte
  l : Byte
  sp : Word
  pc : Word
  flags : Flags
  inte : Bool
  run : RunState
  faultOpcode : Byte
  faultPc : Word
  mem : Memory
  deriving DecidableEq, Repr

/-- The reasons a request of the host is turned away because the machine cannot go on. -/
inductive Fault where
  /-- EmptyImage: raised by `resetImage` alone, for an image of no bytes (R173, R191). Safe: no state is defined. -/
  | emptyImage
  /-- Raised by `step` alone, when RUN is HALTED: no transition leaves HALTED but reset (R31, R175, D11).
  Safe: the spec gives the machine no further step. -/
  | stepWhileHalted
  /-- Raised by `step` alone, when RUN is FAULTED: "There is no resume-from-fault transition" (R31, R175, D11).
  Safe: the spec gives the machine no further step. -/
  | stepWhileFaulted
  deriving DecidableEq, Repr

/-- The requests the model gives no meaning to. -/
inductive Refusal where
  /-- Raised by an arm of `exec` whose instruction has no meaning yet; no arm of this model does. Safe. -/
  | notModelled (mnemonic : String)
  /-- Raised by `resetImage` alone: an image longer than the memory array has no meaning (R192, D13, U5). Safe. -/
  | imageTooLong (length : Nat)
  deriving DecidableEq, Repr

/-- The state after reset (R35, R193), every field at the value the spec gives. No byte of memory is listed: this is the
state of every reset whose image holds no other byte than 0x00 (assumption log 4). -/
def State.reset : State where
  a := 0x00
  b := 0x00
  c := 0x00
  d := 0x00
  e := 0x00
  h := 0x00
  l := 0x00
  sp := 0x0000
  pc := 0x0000
  flags := { z := false, s := false, p := false, cy := false, ac := false }
  inte := false
  run := .running
  faultOpcode := 0x00
  faultPc := 0x0000
  mem := []

end Sys2Proof.Machine
end

