-- ==== Sys2Proof/Machine/Ops.lean ====
section
/-! DEFINITION. The named operations over registers, pairs, memory and the stack, the advance of PC, the exception and the halt (spec R5). -/

namespace Sys2Proof.Machine

/-- `r[c]`: read of a general register (R11). -/
def getReg (r : Reg8) (s : State) : Byte :=
  match r with
  | .b => s.b
  | .c => s.c
  | .d => s.d
  | .e => s.e
  | .h => s.h
  | .l => s.l
  | .a => s.a

/-- `r[c] <- v`: write of a general register (R11). -/
def setReg (r : Reg8) (v : Byte) (s : State) : State :=
  match r with
  | .b => { s with b := v }
  | .c => { s with c := v }
  | .d => { s with d := v }
  | .e => { s with e := v }
  | .h => { s with h := v }
  | .l => { s with l := v }
  | .a => { s with a := v }

/-- `getPair(p)`: the high register in bits 15 to 8, the low register in bits 7 to 0 (R13). -/
def getPair (p : Pair) (s : State) : Word :=
  match p with
  | .bc => joinBytes s.b s.c
  | .de => joinBytes s.d s.e
  | .hl => joinBytes s.h s.l

/-- `setPair(p, v)`: the high byte to the high register, the low byte to the low register (R13). -/
def setPair (p : Pair) (v : Word) (s : State) : State :=
  match p with
  | .bc => { s with b := highByte v, c := lowByte v }
  | .de => { s with d := highByte v, e := lowByte v }
  | .hl => { s with h := highByte v, l := lowByte v }

/-- `rp16[c]`: the 16-bit operand of LXI, INX, DCX and DAD (R14). -/
def getRp16 (p : Rp16) (s : State) : Word :=
  match p with
  | .bc => getPair .bc s
  | .de => getPair .de s
  | .hl => getPair .hl s
  | .sp => s.sp

/-- `rp16[c] <- v` (R14). -/
def setRp16 (p : Rp16) (v : Word) (s : State) : State :=
  match p with
  | .bc => setPair .bc v s
  | .de => setPair .de v s
  | .hl => setPair .hl v s
  | .sp => { s with sp := v }

/-- `MemRead(addr, 1)` (R40). -/
def memRead (addr : Word) (s : State) : Byte := Memory.read s.mem addr.toNat

/-- `MemWrite(addr, 1, v)` (R41). -/
def memWrite (addr : Word) (v : Byte) (s : State) : State :=
  { s with mem := Memory.write s.mem addr.toNat v }

/-- `MemRead(addr, 2)`: low byte at the lower address, the second address wrapped mod 2^16 (R42, R43). -/
def memRead2 (addr : Word) (s : State) : Word := joinBytes (memRead (addr + 1) s) (memRead addr s)

/-- `MemWrite(addr, 2, v)` (R42, R43). -/
def memWrite2 (addr : Word) (v : Word) (s : State) : State :=
  memWrite (addr + 1) (highByte v) (memWrite addr (lowByte v) s)

/-- `operandByte()`: the byte at PC+1, while PC still holds the opcode's address (R45). -/
def operandByte (s : State) : Byte := memRead (s.pc + 1) s

/-- `operandAddress()`: low byte at PC+1, high byte at PC+2 (R46). -/
def operandAddress (s : State) : Word := joinBytes (memRead (s.pc + 2) s) (memRead (s.pc + 1) s)

/-- `pushWord(high, low)`: SP down by 2, then `low` at SP and `high` at SP+1 (R47). -/
def pushWord (high low : Byte) (s : State) : State :=
  let top := s.sp - 2
  memWrite (top + 1) high (memWrite top low { s with sp := top })

/-- The high byte `popWord()` returns: the byte at SP+1 (R48). -/
def popHigh (s : State) : Byte := memRead (s.sp + 1) s

/-- The low byte `popWord()` returns: the byte at SP (R48). -/
def popLow (s : State) : Byte := memRead s.sp s

/-- The state change of `popWord()`: SP up by 2; the bytes popped stay in memory (R48). -/
def popWord (s : State) : State := { s with sp := s.sp + 2 }

/-- `PC <- target` (R16). -/
def setPc (target : Word) (s : State) : State := { s with pc := target }

/-- `advance(n)`: `PC <- (PC + n) mod 2^16`, the last action of an instruction of length `n` (R17). -/
def advance (n : Word) (s : State) : State := setPc (s.pc + n) s

/-- `raise UnimplementedInstruction(opcode, PC)`, the one synchronous exception (R171, R172): the fault record and RUN
are written, PC stays on the offending byte and nothing else changes. There is no return from it (R175). -/
def raiseUnimplemented (opcode : Byte) (s : State) : State :=
  { s with faultOpcode := opcode, faultPc := s.pc, run := .faulted }

/-- `RUN <- HALTED`, the clean stop of HLT (R160). -/
def halt (s : State) : State := { s with run := .halted }

/-- Why no step is enabled: `step` is enabled only when RUN is RUNNING (R6, R31, R175). -/
def stepStop (run : RunState) : Option Fault :=
  match run with
  | .running => none
  | .halted => some .stepWhileHalted
  | .faulted => some .stepWhileFaulted

end Sys2Proof.Machine
end

