-- ==== Sys2Proof/Machine/Flags.lean ====
section
/-! DEFINITION. Every flag computation of the spec: parity, the three flag updates, AC, the packed flag byte, the conditions (R20 to R28, R67). -/

namespace Sys2Proof.Machine

/-- `carryFlag()` as a bit (R22). -/
def carryFlag (s : State) : Bool := s.flags.cy

/-- How many of the 8 bits of `b` are 1. -/
def oneBits (b : Byte) : Nat :=
  (b.getLsbD 0).toNat + (b.getLsbD 1).toNat + (b.getLsbD 2).toNat + (b.getLsbD 3).toNat +
  (b.getLsbD 4).toNat + (b.getLsbD 5).toNat + (b.getLsbD 6).toNat + (b.getLsbD 7).toNat

/-- `parity_even(b)`: true when the number of 1 bits is even (R23). -/
def parityEven (b : Byte) : Bool := decide (oneBits b % 2 = 0)

/-- Z from an 8-bit result (R20). -/
def zeroOf (res : Byte) : Bool := decide (res = 0x00)

/-- S from an 8-bit result: a copy of bit 7 (R20). -/
def signOf (res : Byte) : Bool := res.getLsbD 7

/-- `AC_RULE(kind, a, b, cin, AC)` on the state before the instruction (R28). -/
def auxCarry (kind : AcKind) (a b : Byte) (cin : Bool) (s : State) : Bool :=
  Config.acRule kind a b cin s.flags.ac

/-- `AC <- v`. -/
def setAc (v : Bool) (s : State) : State := { s with flags := { s.flags with ac := v } }

/-- `CY <- v`. -/
def setCy (v : Bool) (s : State) : State := { s with flags := { s.flags with cy := v } }

/-- `applyArithmeticFlags(raw16)` without its last line: Z, S, CY and P of an untruncated result (R24, R103). -/
def compareFlags (raw : Word) (s : State) : State :=
  { s with flags :=
    { z := zeroOf (lowByte raw)
      s := signOf (lowByte raw)
      p := parityEven (lowByte raw)
      cy := decide (highByte raw ≠ 0x00)
      ac := s.flags.ac } }

/-- `applyArithmeticFlags(raw16)`: the flags, then A takes the low byte (R24). -/
def applyArithmeticFlags (raw : Word) (s : State) : State := setReg .a (lowByte raw) (compareFlags raw s)

/-- `applyLogicFlags(res)`: Z, S, P from the result, CY cleared (R25). -/
def applyLogicFlags (res : Byte) (s : State) : State :=
  { s with flags := { z := zeroOf res, s := signOf res, p := parityEven res, cy := false, ac := s.flags.ac } }

/-- `applyIncDecFlags(res)`: Z, S, P from the result, CY not written (R26). -/
def applyIncDecFlags (res : Byte) (s : State) : State :=
  { s with flags := { z := zeroOf res, s := signOf res, p := parityEven res, cy := s.flags.cy, ac := s.flags.ac } }

/-- `packFlags()`: `{S, Z, 0, AC, 0, P, 1, CY}` (R27). -/
def packFlags (f : Flags) : Byte :=
  BitVec.ofBool f.s ++ BitVec.ofBool f.z ++ 0#1 ++ BitVec.ofBool f.ac ++ 0#1 ++ BitVec.ofBool f.p ++ 1#1 ++
    BitVec.ofBool f.cy

/-- `unpackFlags(b)`: bits 1, 3 and 5 are ignored (R27, D17). -/
def unpackFlags (b : Byte) : Flags where
  z := b.getLsbD 6
  s := b.getLsbD 7
  p := b.getLsbD 2
  cy := b.getLsbD 0
  ac := b.getLsbD 4

/-- `cond(ccc)` (R67). -/
def condition (ccc : Cond) (f : Flags) : Bool :=
  match ccc with
  | .nz => !f.z
  | .z => f.z
  | .nc => !f.cy
  | .c => f.cy
  | .po => !f.p
  | .pe => f.p
  | .p => !f.s
  | .m => f.s

end Sys2Proof.Machine
end

