-- ==== Sys2Proof/Machine/Operands.lean ====
section
/-! DEFINITION. The operand forms: the 8-bit operand of a register code (spec R64), the address pair of LDAX and STAX (R134, R135), the byte pairs of PUSH and POP (R140). -/

namespace Sys2Proof.Machine

/-- The address of the operand M, `{H, L}` (R64). -/
def addressOfM (s : State) : Word := getPair .hl s

/-- `opnd8(c)`: a register, or the memory byte at `{H, L}` (R64). -/
def opnd8 (o : Operand8) (s : State) : Byte :=
  match o with
  | .reg r => getReg r s
  | .m => memRead (addressOfM s) s

/-- `wr8(c, v)`: a register, or the memory byte at `{H, L}` (R64). -/
def wr8 (o : Operand8) (v : Byte) (s : State) : State :=
  match o with
  | .reg r => setReg r v s
  | .m => memWrite (addressOfM s) v s

/-- The address LDAX and STAX use: BC or DE (R134, R135). -/
def indexAddress (p : IndexPair) (s : State) : Word :=
  match p with
  | .bc => getPair .bc s
  | .de => getPair .de s

end Sys2Proof.Machine
end

