-- ==== Sys2Proof/Machine/Arith.lean ====
section
/-! DEFINITION. Accumulator arithmetic: ADD, ADC, SUB, SBB, CMP and their immediate forms (spec R95 to R106). -/

namespace Sys2Proof.Machine

/-- The 16-bit raw result of an addition (R95). -/
def rawSum (a b : Byte) (cin : Bool) : Word := a.setWidth 16 + b.setWidth 16 + (BitVec.ofBool cin).setWidth 16

/-- The 16-bit raw result of a subtraction, mod 2^16 (R95). -/
def rawDifference (a b : Byte) (cin : Bool) : Word := a.setWidth 16 - b.setWidth 16 - (BitVec.ofBool cin).setWidth 16

/-- The effect of ADD and ADI but for the advance (R96, R100). -/
def addToA (b : Byte) (s : State) : State :=
  setAc (auxCarry .add s.a b false s) (applyArithmeticFlags (rawSum s.a b false) s)

/-- The effect of ADC and ACI but for the advance (R97, R101). -/
def adcToA (b : Byte) (s : State) : State :=
  setAc (auxCarry .adc s.a b (carryFlag s) s) (applyArithmeticFlags (rawSum s.a b (carryFlag s)) s)

/-- The effect of SUB and SUI but for the advance (R98, R102). -/
def subFromA (b : Byte) (s : State) : State :=
  setAc (auxCarry .sub s.a b false s) (applyArithmeticFlags (rawDifference s.a b false) s)

/-- The effect of SBB and SBI but for the advance (R99, R104). -/
def sbbFromA (b : Byte) (s : State) : State :=
  setAc (auxCarry .sbb s.a b (carryFlag s) s) (applyArithmeticFlags (rawDifference s.a b (carryFlag s)) s)

/-- The effect of CMP and CPI but for the advance: the flags of A - b, A not written (R103, R105). -/
def compareWithA (b : Byte) (s : State) : State :=
  setAc (auxCarry .cmp s.a b false s) (compareFlags (rawDifference s.a b false) s)

/-! ### The meanings -/

/-- `ADD B` (R96). -/
def execAddB (s : State) : Host.Outcome State Fault Refusal := .next (advance 1 (addToA (opnd8 (.reg .b) s) s))

/-- `ADD C` (R96). -/
def execAddC (s : State) : Host.Outcome State Fault Refusal := .next (advance 1 (addToA (opnd8 (.reg .c) s) s))

/-- `ADD D` (R96). -/
def execAddD (s : State) : Host.Outcome State Fault Refusal := .next (advance 1 (addToA (opnd8 (.reg .d) s) s))

/-- `ADD E` (R96). -/
def execAddE (s : State) : Host.Outcome State Fault Refusal := .next (advance 1 (addToA (opnd8 (.reg .e) s) s))

/-- `ADD H` (R96). -/
def execAddH (s : State) : Host.Outcome State Fault Refusal := .next (advance 1 (addToA (opnd8 (.reg .h) s) s))

/-- `ADD L` (R96). -/
def execAddL (s : State) : Host.Outcome State Fault Refusal := .next (advance 1 (addToA (opnd8 (.reg .l) s) s))

/-- `ADD M` (R96). -/
def execAddM (s : State) : Host.Outcome State Fault Refusal := .next (advance 1 (addToA (opnd8 .m s) s))

/-- `ADD A` (R96). -/
def execAddA (s : State) : Host.Outcome State Fault Refusal := .next (advance 1 (addToA (opnd8 (.reg .a) s) s))

/-- `ADC B` (R97). -/
def execAdcB (s : State) : Host.Outcome State Fault Refusal := .next (advance 1 (adcToA (opnd8 (.reg .b) s) s))

/-- `ADC C` (R97). -/
def execAdcC (s : State) : Host.Outcome State Fault Refusal := .next (advance 1 (adcToA (opnd8 (.reg .c) s) s))

/-- `ADC D` (R97). -/
def execAdcD (s : State) : Host.Outcome State Fault Refusal := .next (advance 1 (adcToA (opnd8 (.reg .d) s) s))

/-- `ADC E` (R97). -/
def execAdcE (s : State) : Host.Outcome State Fault Refusal := .next (advance 1 (adcToA (opnd8 (.reg .e) s) s))

/-- `ADC H` (R97). -/
def execAdcH (s : State) : Host.Outcome State Fault Refusal := .next (advance 1 (adcToA (opnd8 (.reg .h) s) s))

/-- `ADC L` (R97). -/
def execAdcL (s : State) : Host.Outcome State Fault Refusal := .next (advance 1 (adcToA (opnd8 (.reg .l) s) s))

/-- `ADC M` (R97). -/
def execAdcM (s : State) : Host.Outcome State Fault Refusal := .next (advance 1 (adcToA (opnd8 .m s) s))

/-- `ADC A` (R97). -/
def execAdcA (s : State) : Host.Outcome State Fault Refusal := .next (advance 1 (adcToA (opnd8 (.reg .a) s) s))

/-- `SUB B` (R98). -/
def execSubB (s : State) : Host.Outcome State Fault Refusal := .next (advance 1 (subFromA (opnd8 (.reg .b) s) s))

/-- `SUB C` (R98). -/
def execSubC (s : State) : Host.Outcome State Fault Refusal := .next (advance 1 (subFromA (opnd8 (.reg .c) s) s))

/-- `SUB D` (R98). -/
def execSubD (s : State) : Host.Outcome State Fault Refusal := .next (advance 1 (subFromA (opnd8 (.reg .d) s) s))

/-- `SUB E` (R98). -/
def execSubE (s : State) : Host.Outcome State Fault Refusal := .next (advance 1 (subFromA (opnd8 (.reg .e) s) s))

/-- `SUB H` (R98). -/
def execSubH (s : State) : Host.Outcome State Fault Refusal := .next (advance 1 (subFromA (opnd8 (.reg .h) s) s))

/-- `SUB L` (R98). -/
def execSubL (s : State) : Host.Outcome State Fault Refusal := .next (advance 1 (subFromA (opnd8 (.reg .l) s) s))

/-- `SUB M` (R98). -/
def execSubM (s : State) : Host.Outcome State Fault Refusal := .next (advance 1 (subFromA (opnd8 .m s) s))

/-- `SUB A` (R98). -/
def execSubA (s : State) : Host.Outcome State Fault Refusal := .next (advance 1 (subFromA (opnd8 (.reg .a) s) s))

/-- `SBB B` (R99). -/
def execSbbB (s : State) : Host.Outcome State Fault Refusal := .next (advance 1 (sbbFromA (opnd8 (.reg .b) s) s))

/-- `SBB C` (R99). -/
def execSbbC (s : State) : Host.Outcome State Fault Refusal := .next (advance 1 (sbbFromA (opnd8 (.reg .c) s) s))

/-- `SBB D` (R99). -/
def execSbbD (s : State) : Host.Outcome State Fault Refusal := .next (advance 1 (sbbFromA (opnd8 (.reg .d) s) s))

/-- `SBB E` (R99). -/
def execSbbE (s : State) : Host.Outcome State Fault Refusal := .next (advance 1 (sbbFromA (opnd8 (.reg .e) s) s))

/-- `SBB H` (R99). -/
def execSbbH (s : State) : Host.Outcome State Fault Refusal := .next (advance 1 (sbbFromA (opnd8 (.reg .h) s) s))

/-- `SBB L` (R99). -/
def execSbbL (s : State) : Host.Outcome State Fault Refusal := .next (advance 1 (sbbFromA (opnd8 (.reg .l) s) s))

/-- `SBB M` (R99). -/
def execSbbM (s : State) : Host.Outcome State Fault Refusal := .next (advance 1 (sbbFromA (opnd8 .m s) s))

/-- `SBB A` (R99). -/
def execSbbA (s : State) : Host.Outcome State Fault Refusal := .next (advance 1 (sbbFromA (opnd8 (.reg .a) s) s))

/-- `CMP B` (R103). -/
def execCmpB (s : State) : Host.Outcome State Fault Refusal := .next (advance 1 (compareWithA (opnd8 (.reg .b) s) s))

/-- `CMP C` (R103). -/
def execCmpC (s : State) : Host.Outcome State Fault Refusal := .next (advance 1 (compareWithA (opnd8 (.reg .c) s) s))

/-- `CMP D` (R103). -/
def execCmpD (s : State) : Host.Outcome State Fault Refusal := .next (advance 1 (compareWithA (opnd8 (.reg .d) s) s))

/-- `CMP E` (R103). -/
def execCmpE (s : State) : Host.Outcome State Fault Refusal := .next (advance 1 (compareWithA (opnd8 (.reg .e) s) s))

/-- `CMP H` (R103). -/
def execCmpH (s : State) : Host.Outcome State Fault Refusal := .next (advance 1 (compareWithA (opnd8 (.reg .h) s) s))

/-- `CMP L` (R103). -/
def execCmpL (s : State) : Host.Outcome State Fault Refusal := .next (advance 1 (compareWithA (opnd8 (.reg .l) s) s))

/-- `CMP M` (R103). -/
def execCmpM (s : State) : Host.Outcome State Fault Refusal := .next (advance 1 (compareWithA (opnd8 .m s) s))

/-- `CMP A` (R103). -/
def execCmpA (s : State) : Host.Outcome State Fault Refusal := .next (advance 1 (compareWithA (opnd8 (.reg .a) s) s))

/-- `ADI d8` (R100). -/
def execAdi (d8 : Byte) (s : State) : Host.Outcome State Fault Refusal := .next (advance 2 (addToA d8 s))

/-- `ACI d8` (R101). -/
def execAci (d8 : Byte) (s : State) : Host.Outcome State Fault Refusal := .next (advance 2 (adcToA d8 s))

/-- `SUI d8` (R102). -/
def execSui (d8 : Byte) (s : State) : Host.Outcome State Fault Refusal := .next (advance 2 (subFromA d8 s))

/-- `SBI d8` (R104). -/
def execSbi (d8 : Byte) (s : State) : Host.Outcome State Fault Refusal := .next (advance 2 (sbbFromA d8 s))

/-- `CPI d8` (R105). -/
def execCpi (d8 : Byte) (s : State) : Host.Outcome State Fault Refusal := .next (advance 2 (compareWithA d8 s))

end Sys2Proof.Machine
end

