-- ==== Sys2Proof/Machine/Direct.lean ====
section
/-! DEFINITION. Direct and pair-indirect memory load and store: STA, LDA, SHLD, LHLD, STAX, LDAX (spec R130 to R136). -/

namespace Sys2Proof.Machine

/-- `STA a16` (R130). -/
def sta (a16 : Word) (s : State) : State := advance 3 (memWrite a16 s.a s)

/-- `LDA a16` (R131). -/
def lda (a16 : Word) (s : State) : State := advance 3 (setReg .a (memRead a16 s) s)

/-- `SHLD a16`: L at the address, H at the address plus one (R132, D15). -/
def shld (a16 : Word) (s : State) : State := advance 3 (memWrite2 a16 (getPair .hl s) s)

/-- `LHLD a16`: L from the address, H from the address plus one (R133, D15). -/
def lhld (a16 : Word) (s : State) : State := advance 3 (setPair .hl (memRead2 a16 s) s)

/-- `STAX rp` (R134). -/
def stax (p : IndexPair) (s : State) : State := advance 1 (memWrite (indexAddress p s) s.a s)

/-- `LDAX rp` (R135). -/
def ldax (p : IndexPair) (s : State) : State := advance 1 (setReg .a (memRead (indexAddress p s) s) s)

/-! ### The meanings -/

/-- `STAX B` (R134). -/
def execStaxB (s : State) : Host.Outcome State Fault Refusal := .next (stax .bc s)

/-- `LDAX B` (R135). -/
def execLdaxB (s : State) : Host.Outcome State Fault Refusal := .next (ldax .bc s)

/-- `STAX D` (R134). -/
def execStaxD (s : State) : Host.Outcome State Fault Refusal := .next (stax .de s)

/-- `LDAX D` (R135). -/
def execLdaxD (s : State) : Host.Outcome State Fault Refusal := .next (ldax .de s)

/-- `SHLD a16` (R132). -/
def execShld (a16 : Word) (s : State) : Host.Outcome State Fault Refusal := .next (shld a16 s)

/-- `LHLD a16` (R133). -/
def execLhld (a16 : Word) (s : State) : Host.Outcome State Fault Refusal := .next (lhld a16 s)

/-- `STA a16` (R130). -/
def execSta (a16 : Word) (s : State) : Host.Outcome State Fault Refusal := .next (sta a16 s)

/-- `LDA a16` (R131). -/
def execLda (a16 : Word) (s : State) : Host.Outcome State Fault Refusal := .next (lda a16 s)

end Sys2Proof.Machine
end

