-- ==== Sys2Proof/Machine/Immediate.lean ====
section
/-! DEFINITION. Immediate loads: MVI, LXI (spec R125 to R127). -/

namespace Sys2Proof.Machine

/-- `MVI dst,d8` (R125, R126). -/
def mvi (dst : Operand8) (d8 : Byte) (s : State) : State := advance 2 (wr8 dst d8 s)

/-- `LXI rp,d16` (R127). -/
def lxi (p : Rp16) (d16 : Word) (s : State) : State := advance 3 (setRp16 p d16 s)

/-! ### The meanings -/

/-- `LXI B,d16` (R127). -/
def execLxiB (d16 : Word) (s : State) : Host.Outcome State Fault Refusal := .next (lxi .bc d16 s)

/-- `MVI B,d8` (R125). -/
def execMviB (d8 : Byte) (s : State) : Host.Outcome State Fault Refusal := .next (mvi (.reg .b) d8 s)

/-- `MVI C,d8` (R125). -/
def execMviC (d8 : Byte) (s : State) : Host.Outcome State Fault Refusal := .next (mvi (.reg .c) d8 s)

/-- `LXI D,d16` (R127). -/
def execLxiD (d16 : Word) (s : State) : Host.Outcome State Fault Refusal := .next (lxi .de d16 s)

/-- `MVI D,d8` (R125). -/
def execMviD (d8 : Byte) (s : State) : Host.Outcome State Fault Refusal := .next (mvi (.reg .d) d8 s)

/-- `MVI E,d8` (R125). -/
def execMviE (d8 : Byte) (s : State) : Host.Outcome State Fault Refusal := .next (mvi (.reg .e) d8 s)

/-- `LXI H,d16` (R127). -/
def execLxiH (d16 : Word) (s : State) : Host.Outcome State Fault Refusal := .next (lxi .hl d16 s)

/-- `MVI H,d8` (R125). -/
def execMviH (d8 : Byte) (s : State) : Host.Outcome State Fault Refusal := .next (mvi (.reg .h) d8 s)

/-- `MVI L,d8` (R125). -/
def execMviL (d8 : Byte) (s : State) : Host.Outcome State Fault Refusal := .next (mvi (.reg .l) d8 s)

/-- `LXI SP,d16` (R127). -/
def execLxiSp (d16 : Word) (s : State) : Host.Outcome State Fault Refusal := .next (lxi .sp d16 s)

/-- `MVI M,d8` (R126). -/
def execMviM (d8 : Byte) (s : State) : Host.Outcome State Fault Refusal := .next (mvi .m d8 s)

/-- `MVI A,d8` (R125). -/
def execMviA (d8 : Byte) (s : State) : Host.Outcome State Fault Refusal := .next (mvi (.reg .a) d8 s)

end Sys2Proof.Machine
end

