-- ==== Sys2Proof/Machine/IncDec.lean ====
section
/-! DEFINITION. Increment, decrement and double-register add: INR, DCR, INX, DCX, DAD (spec R85 to R92). -/

namespace Sys2Proof.Machine

/-- `INR`: add 1 to a register or memory byte; Z, S, P and AC are written, CY is not (R85, R86). -/
def inr (o : Operand8) (s : State) : State :=
  let v := opnd8 o s
  let res := v + 1
  let ac := auxCarry .inr v 0x01 false s
  advance 1 (setAc ac (applyIncDecFlags res (wr8 o res s)))

/-- `DCR`: subtract 1 from a register or memory byte; Z, S, P and AC are written, CY is not (R87, R88). -/
def dcr (o : Operand8) (s : State) : State :=
  let v := opnd8 o s
  let res := v - 1
  let ac := auxCarry .dcr v 0x01 false s
  advance 1 (setAc ac (applyIncDecFlags res (wr8 o res s)))

/-- `INX rp`: 16-bit increment, no flag (R89). -/
def inx (p : Rp16) (s : State) : State := advance 1 (setRp16 p (getRp16 p s + 1) s)

/-- `DCX rp`: 16-bit decrement, no flag (R90). -/
def dcx (p : Rp16) (s : State) : State := advance 1 (setRp16 p (getRp16 p s - 1) s)

/-- The untruncated 32-bit sum of DAD (R91). -/
def dadSum (p : Rp16) (s : State) : BitVec 32 := (getPair .hl s).setWidth 32 + (getRp16 p s).setWidth 32

/-- `DAD rp`: HL takes the sum mod 2^16, CY the carry out of bit 15, no other flag (R91). -/
def dad (p : Rp16) (s : State) : State :=
  let sum := dadSum p s
  advance 1 (setPair .hl (sum.setWidth 16) (setCy (decide (0xFFFF < sum.toNat)) s))

/-! ### The meanings -/

/-- `INX B` (R89). -/
def execInxB (s : State) : Host.Outcome State Fault Refusal := .next (inx .bc s)

/-- `INR B` (R85). -/
def execInrB (s : State) : Host.Outcome State Fault Refusal := .next (inr (.reg .b) s)

/-- `DCR B` (R87). -/
def execDcrB (s : State) : Host.Outcome State Fault Refusal := .next (dcr (.reg .b) s)

/-- `DAD B` (R91). -/
def execDadB (s : State) : Host.Outcome State Fault Refusal := .next (dad .bc s)

/-- `DCX B` (R90). -/
def execDcxB (s : State) : Host.Outcome State Fault Refusal := .next (dcx .bc s)

/-- `INR C` (R85). -/
def execInrC (s : State) : Host.Outcome State Fault Refusal := .next (inr (.reg .c) s)

/-- `DCR C` (R87). -/
def execDcrC (s : State) : Host.Outcome State Fault Refusal := .next (dcr (.reg .c) s)

/-- `INX D` (R89). -/
def execInxD (s : State) : Host.Outcome State Fault Refusal := .next (inx .de s)

/-- `INR D` (R85). -/
def execInrD (s : State) : Host.Outcome State Fault Refusal := .next (inr (.reg .d) s)

/-- `DCR D` (R87). -/
def execDcrD (s : State) : Host.Outcome State Fault Refusal := .next (dcr (.reg .d) s)

/-- `DAD D` (R91). -/
def execDadD (s : State) : Host.Outcome State Fault Refusal := .next (dad .de s)

/-- `DCX D` (R90). -/
def execDcxD (s : State) : Host.Outcome State Fault Refusal := .next (dcx .de s)

/-- `INR E` (R85). -/
def execInrE (s : State) : Host.Outcome State Fault Refusal := .next (inr (.reg .e) s)

/-- `DCR E` (R87). -/
def execDcrE (s : State) : Host.Outcome State Fault Refusal := .next (dcr (.reg .e) s)

/-- `INX H` (R89). -/
def execInxH (s : State) : Host.Outcome State Fault Refusal := .next (inx .hl s)

/-- `INR H` (R85). -/
def execInrH (s : State) : Host.Outcome State Fault Refusal := .next (inr (.reg .h) s)

/-- `DCR H` (R87). -/
def execDcrH (s : State) : Host.Outcome State Fault Refusal := .next (dcr (.reg .h) s)

/-- `DAD H` (R91). -/
def execDadH (s : State) : Host.Outcome State Fault Refusal := .next (dad .hl s)

/-- `DCX H` (R90). -/
def execDcxH (s : State) : Host.Outcome State Fault Refusal := .next (dcx .hl s)

/-- `INR L` (R85). -/
def execInrL (s : State) : Host.Outcome State Fault Refusal := .next (inr (.reg .l) s)

/-- `DCR L` (R87). -/
def execDcrL (s : State) : Host.Outcome State Fault Refusal := .next (dcr (.reg .l) s)

/-- `INX SP` (R89). -/
def execInxSp (s : State) : Host.Outcome State Fault Refusal := .next (inx .sp s)

/-- `INR M` (R86). -/
def execInrM (s : State) : Host.Outcome State Fault Refusal := .next (inr .m s)

/-- `DCR M` (R88). -/
def execDcrM (s : State) : Host.Outcome State Fault Refusal := .next (dcr .m s)

/-- `DAD SP` (R91). -/
def execDadSp (s : State) : Host.Outcome State Fault Refusal := .next (dad .sp s)

/-- `DCX SP` (R90). -/
def execDcxSp (s : State) : Host.Outcome State Fault Refusal := .next (dcx .sp s)

/-- `INR A` (R85). -/
def execInrA (s : State) : Host.Outcome State Fault Refusal := .next (inr (.reg .a) s)

/-- `DCR A` (R87). -/
def execDcrA (s : State) : Host.Outcome State Fault Refusal := .next (dcr (.reg .a) s)

end Sys2Proof.Machine
end

