-- ==== Sys2Proof/Machine/Jump.lean ====
section
/-! DEFINITION. Control transfer: JMP and the eight conditional jumps (spec R145 to R154). -/

namespace Sys2Proof.Machine

/-- `if taken then PC <- target else advance(3)` (R145). -/
def jumpIf (taken : Bool) (target : Word) (s : State) : State := if taken then setPc target s else advance 3 s

/-! ### The meanings -/

/-- `JNZ a16` (R147). -/
def execJnz (a16 : Word) (s : State) : Host.Outcome State Fault Refusal := .next (jumpIf (condition .nz s.flags) a16 s)

/-- `JMP a16` (R146). -/
def execJmp (a16 : Word) (s : State) : Host.Outcome State Fault Refusal := .next (jumpIf true a16 s)

/-- `JZ a16` (R148). -/
def execJz (a16 : Word) (s : State) : Host.Outcome State Fault Refusal := .next (jumpIf (condition .z s.flags) a16 s)

/-- `JNC a16` (R149). -/
def execJnc (a16 : Word) (s : State) : Host.Outcome State Fault Refusal := .next (jumpIf (condition .nc s.flags) a16 s)

/-- `JC a16` (R150). -/
def execJc (a16 : Word) (s : State) : Host.Outcome State Fault Refusal := .next (jumpIf (condition .c s.flags) a16 s)

/-- `JPO a16` (R151). -/
def execJpo (a16 : Word) (s : State) : Host.Outcome State Fault Refusal := .next (jumpIf (condition .po s.flags) a16 s)

/-- `JPE a16` (R152). -/
def execJpe (a16 : Word) (s : State) : Host.Outcome State Fault Refusal := .next (jumpIf (condition .pe s.flags) a16 s)

/-- `JP a16` (R153). -/
def execJp (a16 : Word) (s : State) : Host.Outcome State Fault Refusal := .next (jumpIf (condition .p s.flags) a16 s)

/-- `JM a16` (R154). -/
def execJm (a16 : Word) (s : State) : Host.Outcome State Fault Refusal := .next (jumpIf (condition .m s.flags) a16 s)

end Sys2Proof.Machine
end

