-- ==== Sys2Proof/Machine/Logic.lean ====
section
/-! DEFINITION. Logic operations: ANA, XRA, ORA and their immediate forms (spec R110 to R116). -/

namespace Sys2Proof.Machine

/-- `A <- res; applyLogicFlags(res); AC <- ac` (R110). -/
def logicResult (res : Byte) (ac : Bool) (s : State) : State := setAc ac (applyLogicFlags res (setReg .a res s))

/-- The effect of ANA and ANI but for the advance (R111, R114). -/
def andWithA (b : Byte) (s : State) : State := logicResult (s.a &&& b) (auxCarry .ana s.a b false s) s

/-- The effect of XRA and XRI but for the advance (R112, R115). -/
def xorWithA (b : Byte) (s : State) : State := logicResult (s.a ^^^ b) (auxCarry .xra s.a b false s) s

/-- The effect of ORA and ORI but for the advance (R113, R116). -/
def orWithA (b : Byte) (s : State) : State := logicResult (s.a ||| b) (auxCarry .ora s.a b false s) s

/-! ### The meanings -/

/-- `ANA B` (R111). -/
def execAnaB (s : State) : Host.Outcome State Fault Refusal := .next (advance 1 (andWithA (opnd8 (.reg .b) s) s))

/-- `ANA C` (R111). -/
def execAnaC (s : State) : Host.Outcome State Fault Refusal := .next (advance 1 (andWithA (opnd8 (.reg .c) s) s))

/-- `ANA D` (R111). -/
def execAnaD (s : State) : Host.Outcome State Fault Refusal := .next (advance 1 (andWithA (opnd8 (.reg .d) s) s))

/-- `ANA E` (R111). -/
def execAnaE (s : State) : Host.Outcome State Fault Refusal := .next (advance 1 (andWithA (opnd8 (.reg .e) s) s))

/-- `ANA H` (R111). -/
def execAnaH (s : State) : Host.Outcome State Fault Refusal := .next (advance 1 (andWithA (opnd8 (.reg .h) s) s))

/-- `ANA L` (R111). -/
def execAnaL (s : State) : Host.Outcome State Fault Refusal := .next (advance 1 (andWithA (opnd8 (.reg .l) s) s))

/-- `ANA M` (R111). -/
def execAnaM (s : State) : Host.Outcome State Fault Refusal := .next (advance 1 (andWithA (opnd8 .m s) s))

/-- `ANA A` (R111). -/
def execAnaA (s : State) : Host.Outcome State Fault Refusal := .next (advance 1 (andWithA (opnd8 (.reg .a) s) s))

/-- `XRA B` (R112). -/
def execXraB (s : State) : Host.Outcome State Fault Refusal := .next (advance 1 (xorWithA (opnd8 (.reg .b) s) s))

/-- `XRA C` (R112). -/
def execXraC (s : State) : Host.Outcome State Fault Refusal := .next (advance 1 (xorWithA (opnd8 (.reg .c) s) s))

/-- `XRA D` (R112). -/
def execXraD (s : State) : Host.Outcome State Fault Refusal := .next (advance 1 (xorWithA (opnd8 (.reg .d) s) s))

/-- `XRA E` (R112). -/
def execXraE (s : State) : Host.Outcome State Fault Refusal := .next (advance 1 (xorWithA (opnd8 (.reg .e) s) s))

/-- `XRA H` (R112). -/
def execXraH (s : State) : Host.Outcome State Fault Refusal := .next (advance 1 (xorWithA (opnd8 (.reg .h) s) s))

/-- `XRA L` (R112). -/
def execXraL (s : State) : Host.Outcome State Fault Refusal := .next (advance 1 (xorWithA (opnd8 (.reg .l) s) s))

/-- `XRA M` (R112). -/
def execXraM (s : State) : Host.Outcome State Fault Refusal := .next (advance 1 (xorWithA (opnd8 .m s) s))

/-- `XRA A` (R112). -/
def execXraA (s : State) : Host.Outcome State Fault Refusal := .next (advance 1 (xorWithA (opnd8 (.reg .a) s) s))

/-- `ORA B` (R113). -/
def execOraB (s : State) : Host.Outcome State Fault Refusal := .next (advance 1 (orWithA (opnd8 (.reg .b) s) s))

/-- `ORA C` (R113). -/
def execOraC (s : State) : Host.Outcome State Fault Refusal := .next (advance 1 (orWithA (opnd8 (.reg .c) s) s))

/-- `ORA D` (R113). -/
def execOraD (s : State) : Host.Outcome State Fault Refusal := .next (advance 1 (orWithA (opnd8 (.reg .d) s) s))

/-- `ORA E` (R113). -/
def execOraE (s : State) : Host.Outcome State Fault Refusal := .next (advance 1 (orWithA (opnd8 (.reg .e) s) s))

/-- `ORA H` (R113). -/
def execOraH (s : State) : Host.Outcome State Fault Refusal := .next (advance 1 (orWithA (opnd8 (.reg .h) s) s))

/-- `ORA L` (R113). -/
def execOraL (s : State) : Host.Outcome State Fault Refusal := .next (advance 1 (orWithA (opnd8 (.reg .l) s) s))

/-- `ORA M` (R113). -/
def execOraM (s : State) : Host.Outcome State Fault Refusal := .next (advance 1 (orWithA (opnd8 .m s) s))

/-- `ORA A` (R113). -/
def execOraA (s : State) : Host.Outcome State Fault Refusal := .next (advance 1 (orWithA (opnd8 (.reg .a) s) s))

/-- `ANI d8` (R114). -/
def execAni (d8 : Byte) (s : State) : Host.Outcome State Fault Refusal := .next (advance 2 (andWithA d8 s))

/-- `XRI d8` (R115). -/
def execXri (d8 : Byte) (s : State) : Host.Outcome State Fault Refusal := .next (advance 2 (xorWithA d8 s))

/-- `ORI d8` (R116). -/
def execOri (d8 : Byte) (s : State) : Host.Outcome State Fault Refusal := .next (advance 2 (orWithA d8 s))

end Sys2Proof.Machine
end

