-- ==== Sys2Proof/Machine/Misc.lean ====
section
/-! DEFINITION. HLT, CMA, STC, CMC and the unimplemented opcodes (spec R160 to R163, R168). -/

namespace Sys2Proof.Machine

/-- `HLT`: RUN becomes HALTED and PC moves past the byte (R160, D9). -/
def hlt (s : State) : State := advance 1 (halt s)

/-- `CMA`: no flag is written (R161). -/
def cma (s : State) : State := advance 1 (setReg .a (~~~s.a) s)

/-- `STC` (R162). -/
def stc (s : State) : State := advance 1 (setCy true s)

/-- `CMC` (R163). -/
def cmc (s : State) : State := advance 1 (setCy (!s.flags.cy) s)

/-! ### The meanings -/

/-- `CMA` (R161). -/
def execCma (s : State) : Host.Outcome State Fault Refusal := .next (cma s)

/-- `STC` (R162). -/
def execStc (s : State) : Host.Outcome State Fault Refusal := .next (stc s)

/-- `CMC` (R163). -/
def execCmc (s : State) : Host.Outcome State Fault Refusal := .next (cmc s)

/-- `HLT` (R160). -/
def execHlt (s : State) : Host.Outcome State Fault Refusal := .next (hlt s)

/-- an opcode byte that is not implemented (R168, R171, R172). -/
def execUnimplemented (opcode : Byte) (s : State) : Host.Outcome State Fault Refusal := .next (raiseUnimplemented opcode s)

end Sys2Proof.Machine
end

