-- ==== Sys2Proof/Machine/Mov.lean ====
section
/-! DEFINITION. Register transfer, MOV (spec R80 to R83). -/

namespace Sys2Proof.Machine

/-- `MOV dst,src`: the operand and the address `{H, L}` are read before anything is written (R80, R81, R82). -/
def mov (dst src : Operand8) (s : State) : State := advance 1 (wr8 dst (opnd8 src s) s)

/-! ### The meanings -/

/-- `MOV B,B` (R80). -/
def execMovBB (s : State) : Host.Outcome State Fault Refusal := .next (mov (.reg .b) (.reg .b) s)

/-- `MOV B,C` (R80). -/
def execMovBC (s : State) : Host.Outcome State Fault Refusal := .next (mov (.reg .b) (.reg .c) s)

/-- `MOV B,D` (R80). -/
def execMovBD (s : State) : Host.Outcome State Fault Refusal := .next (mov (.reg .b) (.reg .d) s)

/-- `MOV B,E` (R80). -/
def execMovBE (s : State) : Host.Outcome State Fault Refusal := .next (mov (.reg .b) (.reg .e) s)

/-- `MOV B,H` (R80). -/
def execMovBH (s : State) : Host.Outcome State Fault Refusal := .next (mov (.reg .b) (.reg .h) s)

/-- `MOV B,L` (R80). -/
def execMovBL (s : State) : Host.Outcome State Fault Refusal := .next (mov (.reg .b) (.reg .l) s)

/-- `MOV B,M` (R81). -/
def execMovBM (s : State) : Host.Outcome State Fault Refusal := .next (mov (.reg .b) .m s)

/-- `MOV B,A` (R80). -/
def execMovBA (s : State) : Host.Outcome State Fault Refusal := .next (mov (.reg .b) (.reg .a) s)

/-- `MOV C,B` (R80). -/
def execMovCB (s : State) : Host.Outcome State Fault Refusal := .next (mov (.reg .c) (.reg .b) s)

/-- `MOV C,C` (R80). -/
def execMovCC (s : State) : Host.Outcome State Fault Refusal := .next (mov (.reg .c) (.reg .c) s)

/-- `MOV C,D` (R80). -/
def execMovCD (s : State) : Host.Outcome State Fault Refusal := .next (mov (.reg .c) (.reg .d) s)

/-- `MOV C,E` (R80). -/
def execMovCE (s : State) : Host.Outcome State Fault Refusal := .next (mov (.reg .c) (.reg .e) s)

/-- `MOV C,H` (R80). -/
def execMovCH (s : State) : Host.Outcome State Fault Refusal := .next (mov (.reg .c) (.reg .h) s)

/-- `MOV C,L` (R80). -/
def execMovCL (s : State) : Host.Outcome State Fault Refusal := .next (mov (.reg .c) (.reg .l) s)

/-- `MOV C,M` (R81). -/
def execMovCM (s : State) : Host.Outcome State Fault Refusal := .next (mov (.reg .c) .m s)

/-- `MOV C,A` (R80). -/
def execMovCA (s : State) : Host.Outcome State Fault Refusal := .next (mov (.reg .c) (.reg .a) s)

/-- `MOV D,B` (R80). -/
def execMovDB (s : State) : Host.Outcome State Fault Refusal := .next (mov (.reg .d) (.reg .b) s)

/-- `MOV D,C` (R80). -/
def execMovDC (s : State) : Host.Outcome State Fault Refusal := .next (mov (.reg .d) (.reg .c) s)

/-- `MOV D,D` (R80). -/
def execMovDD (s : State) : Host.Outcome State Fault Refusal := .next (mov (.reg .d) (.reg .d) s)

/-- `MOV D,E` (R80). -/
def execMovDE (s : State) : Host.Outcome State Fault Refusal := .next (mov (.reg .d) (.reg .e) s)

/-- `MOV D,H` (R80). -/
def execMovDH (s : State) : Host.Outcome State Fault Refusal := .next (mov (.reg .d) (.reg .h) s)

/-- `MOV D,L` (R80). -/
def execMovDL (s : State) : Host.Outcome State Fault Refusal := .next (mov (.reg .d) (.reg .l) s)

/-- `MOV D,M` (R81). -/
def execMovDM (s : State) : Host.Outcome State Fault Refusal := .next (mov (.reg .d) .m s)

/-- `MOV D,A` (R80). -/
def execMovDA (s : State) : Host.Outcome State Fault Refusal := .next (mov (.reg .d) (.reg .a) s)

/-- `MOV E,B` (R80). -/
def execMovEB (s : State) : Host.Outcome State Fault Refusal := .next (mov (.reg .e) (.reg .b) s)

/-- `MOV E,C` (R80). -/
def execMovEC (s : State) : Host.Outcome State Fault Refusal := .next (mov (.reg .e) (.reg .c) s)

/-- `MOV E,D` (R80). -/
def execMovED (s : State) : Host.Outcome State Fault Refusal := .next (mov (.reg .e) (.reg .d) s)

/-- `MOV E,E` (R80). -/
def execMovEE (s : State) : Host.Outcome State Fault Refusal := .next (mov (.reg .e) (.reg .e) s)

/-- `MOV E,H` (R80). -/
def execMovEH (s : State) : Host.Outcome State Fault Refusal := .next (mov (.reg .e) (.reg .h) s)

/-- `MOV E,L` (R80). -/
def execMovEL (s : State) : Host.Outcome State Fault Refusal := .next (mov (.reg .e) (.reg .l) s)

/-- `MOV E,M` (R81). -/
def execMovEM (s : State) : Host.Outcome State Fault Refusal := .next (mov (.reg .e) .m s)

/-- `MOV E,A` (R80). -/
def execMovEA (s : State) : Host.Outcome State Fault Refusal := .next (mov (.reg .e) (.reg .a) s)

/-- `MOV H,B` (R80). -/
def execMovHB (s : State) : Host.Outcome State Fault Refusal := .next (mov (.reg .h) (.reg .b) s)

/-- `MOV H,C` (R80). -/
def execMovHC (s : State) : Host.Outcome State Fault Refusal := .next (mov (.reg .h) (.reg .c) s)

/-- `MOV H,D` (R80). -/
def execMovHD (s : State) : Host.Outcome State Fault Refusal := .next (mov (.reg .h) (.reg .d) s)

/-- `MOV H,E` (R80). -/
def execMovHE (s : State) : Host.Outcome State Fault Refusal := .next (mov (.reg .h) (.reg .e) s)

/-- `MOV H,H` (R80). -/
def execMovHH (s : State) : Host.Outcome State Fault Refusal := .next (mov (.reg .h) (.reg .h) s)

/-- `MOV H,L` (R80). -/
def execMovHL (s : State) : Host.Outcome State Fault Refusal := .next (mov (.reg .h) (.reg .l) s)

/-- `MOV H,M` (R81). -/
def execMovHM (s : State) : Host.Outcome State Fault Refusal := .next (mov (.reg .h) .m s)

/-- `MOV H,A` (R80). -/
def execMovHA (s : State) : Host.Outcome State Fault Refusal := .next (mov (.reg .h) (.reg .a) s)

/-- `MOV L,B` (R80). -/
def execMovLB (s : State) : Host.Outcome State Fault Refusal := .next (mov (.reg .l) (.reg .b) s)

/-- `MOV L,C` (R80). -/
def execMovLC (s : State) : Host.Outcome State Fault Refusal := .next (mov (.reg .l) (.reg .c) s)

/-- `MOV L,D` (R80). -/
def execMovLD (s : State) : Host.Outcome State Fault Refusal := .next (mov (.reg .l) (.reg .d) s)

/-- `MOV L,E` (R80). -/
def execMovLE (s : State) : Host.Outcome State Fault Refusal := .next (mov (.reg .l) (.reg .e) s)

/-- `MOV L,H` (R80). -/
def execMovLH (s : State) : Host.Outcome State Fault Refusal := .next (mov (.reg .l) (.reg .h) s)

/-- `MOV L,L` (R80). -/
def execMovLL (s : State) : Host.Outcome State Fault Refusal := .next (mov (.reg .l) (.reg .l) s)

/-- `MOV L,M` (R81). -/
def execMovLM (s : State) : Host.Outcome State Fault Refusal := .next (mov (.reg .l) .m s)

/-- `MOV L,A` (R80). -/
def execMovLA (s : State) : Host.Outcome State Fault Refusal := .next (mov (.reg .l) (.reg .a) s)

/-- `MOV M,B` (R82). -/
def execMovMB (s : State) : Host.Outcome State Fault Refusal := .next (mov .m (.reg .b) s)

/-- `MOV M,C` (R82). -/
def execMovMC (s : State) : Host.Outcome State Fault Refusal := .next (mov .m (.reg .c) s)

/-- `MOV M,D` (R82). -/
def execMovMD (s : State) : Host.Outcome State Fault Refusal := .next (mov .m (.reg .d) s)

/-- `MOV M,E` (R82). -/
def execMovME (s : State) : Host.Outcome State Fault Refusal := .next (mov .m (.reg .e) s)

/-- `MOV M,H` (R82). -/
def execMovMH (s : State) : Host.Outcome State Fault Refusal := .next (mov .m (.reg .h) s)

/-- `MOV M,L` (R82). -/
def execMovML (s : State) : Host.Outcome State Fault Refusal := .next (mov .m (.reg .l) s)

/-- `MOV M,A` (R82). -/
def execMovMA (s : State) : Host.Outcome State Fault Refusal := .next (mov .m (.reg .a) s)

/-- `MOV A,B` (R80). -/
def execMovAB (s : State) : Host.Outcome State Fault Refusal := .next (mov (.reg .a) (.reg .b) s)

/-- `MOV A,C` (R80). -/
def execMovAC (s : State) : Host.Outcome State Fault Refusal := .next (mov (.reg .a) (.reg .c) s)

/-- `MOV A,D` (R80). -/
def execMovAD (s : State) : Host.Outcome State Fault Refusal := .next (mov (.reg .a) (.reg .d) s)

/-- `MOV A,E` (R80). -/
def execMovAE (s : State) : Host.Outcome State Fault Refusal := .next (mov (.reg .a) (.reg .e) s)

/-- `MOV A,H` (R80). -/
def execMovAH (s : State) : Host.Outcome State Fault Refusal := .next (mov (.reg .a) (.reg .h) s)

/-- `MOV A,L` (R80). -/
def execMovAL (s : State) : Host.Outcome State Fault Refusal := .next (mov (.reg .a) (.reg .l) s)

/-- `MOV A,M` (R81). -/
def execMovAM (s : State) : Host.Outcome State Fault Refusal := .next (mov (.reg .a) .m s)

/-- `MOV A,A` (R80). -/
def execMovAA (s : State) : Host.Outcome State Fault Refusal := .next (mov (.reg .a) (.reg .a) s)

end Sys2Proof.Machine
end

