-- ==== Sys2Proof/Machine/Rotate.lean ====
section
/-! DEFINITION. Rotates of the accumulator: RLC, RRC, RAL, RAR (spec R120 to R124). -/

namespace Sys2Proof.Machine

/-- `{a[6:0], low}`: A moved one place toward bit 7, with `low` in bit 0. -/
def shiftInLow (a : Byte) (low : Bool) : Byte := a.extractLsb' 0 7 ++ BitVec.ofBool low

/-- `{high, a[7:1]}`: A moved one place toward bit 0, with `high` in bit 7. -/
def shiftInHigh (a : Byte) (high : Bool) : Byte := BitVec.ofBool high ++ a.extractLsb' 1 7

/-- A and CY take their new values; no other flag is written. -/
def rotated (a : Byte) (cy : Bool) (s : State) : State := advance 1 (setReg .a a (setCy cy s))

/-- `RLC` (R120). -/
def rlc (s : State) : State := rotated (shiftInLow s.a (s.a.getLsbD 7)) (s.a.getLsbD 7) s

/-- `RRC` (R121). -/
def rrc (s : State) : State := rotated (shiftInHigh s.a (s.a.getLsbD 0)) (s.a.getLsbD 0) s

/-- `RAL`: the previous CY enters bit 0 (R122). -/
def ral (s : State) : State := rotated (shiftInLow s.a (carryFlag s)) (s.a.getLsbD 7) s

/-- `RAR`: the previous CY enters bit 7 (R123). -/
def rar (s : State) : State := rotated (shiftInHigh s.a (carryFlag s)) (s.a.getLsbD 0) s

/-! ### The meanings -/

/-- `RLC` (R120). -/
def execRlc (s : State) : Host.Outcome State Fault Refusal := .next (rlc s)

/-- `RRC` (R121). -/
def execRrc (s : State) : Host.Outcome State Fault Refusal := .next (rrc s)

/-- `RAL` (R122). -/
def execRal (s : State) : Host.Outcome State Fault Refusal := .next (ral s)

/-- `RAR` (R123). -/
def execRar (s : State) : Host.Outcome State Fault Refusal := .next (rar s)

end Sys2Proof.Machine
end

