-- ==== Sys2Proof/Machine/Stack.lean ====
section
/-! DEFINITION. Stack operations: PUSH, POP (spec R140 to R144). -/

namespace Sys2Proof.Machine

/-- The high byte PUSH stores (R140; for the PSW also D16). -/
def stackHigh (p : StackPair) (s : State) : Byte :=
  match p with
  | .bc => s.b
  | .de => s.d
  | .hl => s.h
  | .psw => s.a

/-- The low byte PUSH stores (R140; for the PSW also D16). -/
def stackLow (p : StackPair) (s : State) : Byte :=
  match p with
  | .bc => s.c
  | .de => s.e
  | .hl => s.l
  | .psw => packFlags s.flags

/-- The destination of POP takes the bytes popped (R140, R143, R144). -/
def setStackPair (p : StackPair) (high low : Byte) (s : State) : State :=
  match p with
  | .bc => { s with b := high, c := low }
  | .de => { s with d := high, e := low }
  | .hl => { s with h := high, l := low }
  | .psw => { s with a := high, flags := unpackFlags low }

/-- `PUSH rp`, `PUSH PSW` (R141, R142). -/
def push (p : StackPair) (s : State) : State := advance 1 (pushWord (stackHigh p s) (stackLow p s) s)

/-- `POP rp`, `POP PSW` (R143, R144). -/
def pop (p : StackPair) (s : State) : State := advance 1 (setStackPair p (popHigh s) (popLow s) (popWord s))

/-! ### The meanings -/

/-- `POP B` (R143). -/
def execPopB (s : State) : Host.Outcome State Fault Refusal := .next (pop .bc s)

/-- `PUSH B` (R141). -/
def execPushB (s : State) : Host.Outcome State Fault Refusal := .next (push .bc s)

/-- `POP D` (R143). -/
def execPopD (s : State) : Host.Outcome State Fault Refusal := .next (pop .de s)

/-- `PUSH D` (R141). -/
def execPushD (s : State) : Host.Outcome State Fault Refusal := .next (push .de s)

/-- `POP H` (R143). -/
def execPopH (s : State) : Host.Outcome State Fault Refusal := .next (pop .hl s)

/-- `PUSH H` (R141). -/
def execPushH (s : State) : Host.Outcome State Fault Refusal := .next (push .hl s)

/-- `POP PSW` (R144). -/
def execPopPsw (s : State) : Host.Outcome State Fault Refusal := .next (pop .psw s)

/-- `PUSH PSW` (R142). -/
def execPushPsw (s : State) : Host.Outcome State Fault Refusal := .next (push .psw s)

end Sys2Proof.Machine
end

