-- ==== Sys2Proof/Machine/Fetch.lean ====
section
/-! DEFINITION. Fetching and decoding the instruction at PC (spec R8, R45, R46, R60). -/

namespace Sys2Proof.Machine

/-- The opcode byte: the byte at PC (R8). -/
def fetchOpcode (s : State) : Byte := memRead s.pc s

/-- The instruction at PC: the opcode byte selects it, and its operand bytes are those at PC+1 and PC+2 (R8, R45, R46).
An opcode that takes no operand byte, an unimplemented one among them, reads none (R49, D30). -/
def fetchInstr (s : State) : Instr := decodeOpcode (fetchOpcode s) (operandByte s) (operandAddress s)

end Sys2Proof.Machine
end

