-- ==== Sys2Proof/Machine/Step.lean ====
section
/-! DEFINITION. One step (spec R8), and the placing of an instruction where the next step fetches. -/

namespace Sys2Proof.Machine

/-- One step (R8): enabled only while RUN is RUNNING (R6, R31); fetch, decode, and the instruction's whole effect. -/
def step (s : State) : Host.Outcome State Fault Refusal :=
  match stepStop s.run with
  | some stop => .fault stop
  | none => exec (fetchInstr s) s

/-- `s` with the instruction whose bits are `w` (bit 0 the lowest of the first byte, bits from `nbits` up zero) stored at
PC, PC+1 and PC+2, and RUN at RUNNING, without which no step is enabled; nothing else changes (assumption log 4). -/
def State.withFetchWord (s : State) (nbits w : Nat) : State :=
  let v := tableWord nbits w
  memWrite (s.pc + 2) (v.extractLsb' 16 8) (memWrite (s.pc + 1) (v.extractLsb' 8 8)
    (memWrite s.pc (v.extractLsb' 0 8) { s with run := .running }))

end Sys2Proof.Machine
end

