-- ==== Sys2Proof/Machine/HostEvents.lean ====
section
/-! DEFINITION. The host's side of the CORE: `reset(IMAGE)`, `status`, `trace` (spec R6, R183, R190 to R193). -/

namespace Sys2Proof.Machine

/-- `reset(IMAGE)` (R190 to R193): EmptyImage for no bytes, no meaning past 65,536 bytes, and else the reset values with
the image copied to memory from address 0. -/
def resetImage (image : List Byte) : Host.Outcome State Fault Refusal :=
  if image.length = 0 then .fault .emptyImage
  else if Memory.size < image.length then .refused (.imageTooLong image.length)
  else .next { State.reset with mem := Memory.ofImage 0 image }

/-- `status`: RUN, FAULT_OPCODE and FAULT_PC, readable between steps (R6). -/
def statusEvent (s : State) : RunState × Byte × Word := (s.run, s.faultOpcode, s.faultPc)

/-- `trace`: the pair (PC, opcode) that may be shown to the host before a step (R6, R183, D25). It changes nothing. -/
def traceEvent (s : State) : Word × Byte := (s.pc, fetchOpcode s)

end Sys2Proof.Machine
end

