-- ==== Sys2Proof/Safety.lean ====
section
/-! DEFINITION. The terms claims are stated in: what an instruction may write (from the spec's tables R11, R15, R21, R49),
frames, effects common to a family, and the invariant of the machine. -/

namespace Sys2Proof.Machine

/-! ### Decoding -/

/-- Whatever follows, `bytes` are the whole encoding of `i`. -/
def DecodesTo (bytes : List Byte) (i : Instr) : Prop := ∀ rest, decode (bytes ++ rest) = .ok (i, rest)

/-! ### What an instruction may write -/

/-- The names of the five flags (R20). -/
inductive FlagName where
  | z | s | p | cy | ac
  deriving DecidableEq, Repr

/-- A flag by name. -/
def getFlag (n : FlagName) (f : Flags) : Bool :=
  match n with
  | .z => f.z
  | .s => f.s
  | .p => f.p
  | .cy => f.cy
  | .ac => f.ac

/-- The register written when an 8-bit operand is a destination. -/
def operandRegisters : Operand8 → List Reg8
  | .reg r => [r]
  | .m => []

/-- The address stored to when an 8-bit operand is a destination (R64). -/
def operandAddresses (o : Operand8) (s : State) : List Word :=
  match o with
  | .reg _ => []
  | .m => [addressOfM s]

/-- The registers a 16-bit operand consists of. -/
def rp16Registers : Rp16 → List Reg8
  | .bc => [.b, .c]
  | .de => [.d, .e]
  | .hl => [.h, .l]
  | .sp => []

/-- The registers POP writes (R140). -/
def stackPairRegisters : StackPair → List Reg8
  | .bc => [.b, .c]
  | .de => [.d, .e]
  | .hl => [.h, .l]
  | .psw => [.a]

/-- The general registers an instruction writes (R11, and the rules of files 40 to 49). -/
def registersWritten (i : Instr) : List Reg8 :=
  match i.form with
  | .mov dst _ => operandRegisters dst
  | .inr o => operandRegisters o
  | .dcr o => operandRegisters o
  | .inx p => rp16Registers p
  | .dcx p => rp16Registers p
  | .dad _ => [.h, .l]
  | .alu op _ => if op = .cmp then [] else [.a]
  | .aluImm op _ => if op = .cmp then [] else [.a]
  | .rotate _ => [.a]
  | .mvi dst _ => operandRegisters dst
  | .lxi p _ => rp16Registers p
  | .sta _ => []
  | .lda _ => [.a]
  | .shld _ => []
  | .lhld _ => [.h, .l]
  | .stax _ => []
  | .ldax _ => [.a]
  | .push _ => []
  | .pop p => stackPairRegisters p
  | .jmp _ => []
  | .jcc _ _ => []
  | .hlt => []
  | .cma => [.a]
  | .stc => []
  | .cmc => []
  | .unimplemented _ => []

/-- The flags an instruction writes (R21). -/
def flagsWritten (i : Instr) : List FlagName :=
  match i.form with
  | .mov _ _ => []
  | .inr _ => [.z, .s, .p, .ac]
  | .dcr _ => [.z, .s, .p, .ac]
  | .inx _ => []
  | .dcx _ => []
  | .dad _ => [.cy]
  | .alu _ _ => [.z, .s, .p, .cy, .ac]
  | .aluImm _ _ => [.z, .s, .p, .cy, .ac]
  | .rotate _ => [.cy]
  | .mvi _ _ => []
  | .lxi _ _ => []
  | .sta _ => []
  | .lda _ => []
  | .shld _ => []
  | .lhld _ => []
  | .stax _ => []
  | .ldax _ => []
  | .push _ => []
  | .pop p => if p = .psw then [.z, .s, .p, .cy, .ac] else []
  | .jmp _ => []
  | .jcc _ _ => []
  | .hlt => []
  | .cma => []
  | .stc => [.cy]
  | .cmc => [.cy]
  | .unimplemented _ => []

/-- Whether an instruction writes SP: LXI SP, INX SP, DCX SP, PUSH and POP (R15). -/
def writesSp (i : Instr) : Bool :=
  match i.form with
  | .inx p => decide (p = .sp)
  | .dcx p => decide (p = .sp)
  | .lxi p _ => decide (p = .sp)
  | .push _ => true
  | .pop _ => true
  | .mov _ _ => false
  | .inr _ => false
  | .dcr _ => false
  | .dad _ => false
  | .alu _ _ => false
  | .aluImm _ _ => false
  | .rotate _ => false
  | .mvi _ _ => false
  | .sta _ => false
  | .lda _ => false
  | .shld _ => false
  | .lhld _ => false
  | .stax _ => false
  | .ldax _ => false
  | .jmp _ => false
  | .jcc _ _ => false
  | .hlt => false
  | .cma => false
  | .stc => false
  | .cmc => false
  | .unimplemented _ => false

/-- The addresses an instruction stores to, computed on the state before it (R49). -/
def storeAddresses (i : Instr) (s : State) : List Word :=
  match i.form with
  | .mov dst _ => operandAddresses dst s
  | .inr o => operandAddresses o s
  | .dcr o => operandAddresses o s
  | .mvi dst _ => operandAddresses dst s
  | .sta a16 => [a16]
  | .shld a16 => [a16, a16 + 1]
  | .stax p => [indexAddress p s]
  | .push _ => [s.sp - 2, s.sp - 1]
  | .inx _ => []
  | .dcx _ => []
  | .dad _ => []
  | .alu _ _ => []
  | .aluImm _ _ => []
  | .rotate _ => []
  | .lxi _ _ => []
  | .lda _ => []
  | .lhld _ => []
  | .ldax _ => []
  | .pop _ => []
  | .jmp _ => []
  | .jcc _ _ => []
  | .hlt => []
  | .cma => []
  | .stc => []
  | .cmc => []
  | .unimplemented _ => []

/-! ### Frames -/

/-- Every general register outside `written` holds what it held. -/
def KeepsRegisters (written : List Reg8) (s t : State) : Prop := ∀ r, r ∉ written → getReg r t = getReg r s

/-- Every flag outside `written` holds what it held. -/
def KeepsFlags (written : List FlagName) (s t : State) : Prop :=
  ∀ n, n ∉ written → getFlag n t.flags = getFlag n s.flags

/-- Every byte of memory outside `stored` reads as it read. -/
def KeepsMemory (stored : List Word) (s t : State) : Prop := ∀ addr, addr ∉ stored → memRead addr t = memRead addr s

/-- INTE and the fault record hold what they held. -/
def KeepsControl (s t : State) : Prop :=
  t.inte = s.inte ∧ t.faultOpcode = s.faultOpcode ∧ t.faultPc = s.faultPc

/-- The frame of an instruction that goes on running and leaves SP alone: only the registers, flags and bytes named, and PC,
may change. -/
def Frame (registers : List Reg8) (flags : List FlagName) (stored : List Word) (s t : State) : Prop :=
  KeepsRegisters registers s t ∧ KeepsFlags flags s t ∧ KeepsMemory stored s t ∧ KeepsControl s t ∧
    t.run = s.run ∧ t.sp = s.sp

/-! ### Effects common to a family -/

/-- Z, S and P as an 8-bit result leaves them (R20). -/
def FlagsOfResult (res : Byte) (f : Flags) : Prop :=
  (f.z = true ↔ res = 0x00) ∧ f.s = res.getLsbD 7 ∧ f.p = parityEven res

/-- What an accumulator add or subtract does (R24, R95): the flags of the untruncated result `raw`, A (unless the
instruction compares), AC by AC_RULE on the values before it, PC past the `len` bytes of it, and nothing else. -/
def ArithmeticEffect (i : Instr) (s : State) (len : Word) (kind : AcKind) (b : Byte) (cin : Bool) (raw : Word)
    (compares : Bool) : Prop :=
  ∃ t, exec i s = .next t ∧ t.a = (if compares then s.a else raw.setWidth 8) ∧ FlagsOfResult (raw.setWidth 8) t.flags ∧
    (t.flags.cy = true ↔ raw.extractLsb' 8 8 ≠ 0x00) ∧ t.flags.ac = Config.acRule kind s.a b cin s.flags.ac ∧
    t.pc = s.pc + len ∧ Frame [.a] [.z, .s, .p, .cy, .ac] [] s t

/-- What a logic operation does (R110): A and the flags of the result, CY cleared, AC by AC_RULE on the values before it,
PC past the `len` bytes of it, and nothing else. -/
def LogicEffect (i : Instr) (s : State) (len : Word) (kind : AcKind) (b res : Byte) : Prop :=
  ∃ t, exec i s = .next t ∧ t.a = res ∧ FlagsOfResult res t.flags ∧ t.flags.cy = false ∧
    t.flags.ac = Config.acRule kind s.a b false s.flags.ac ∧ t.pc = s.pc + len ∧
    Frame [.a] [.z, .s, .p, .cy, .ac] [] s t

/-- What INR and DCR do with the flags: Z, S and P of the result, CY kept, AC by AC_RULE (R26, R28). -/
def IncDecFlags (kind : AcKind) (v res : Byte) (s t : State) : Prop :=
  FlagsOfResult res t.flags ∧ t.flags.cy = s.flags.cy ∧ t.flags.ac = Config.acRule kind v 0x01 false s.flags.ac

/-- Instructions one after the other, as `exec` has them, up to the first that gives no next state. -/
def execAll : List Instr → State → Host.Outcome State Fault Refusal
  | [], s => .next s
  | i :: is, s =>
    match exec i s with
    | .next t => execAll is t
    | .fault r => .fault r
    | .refused r => .refused r

/-! ### The invariant -/

/-- The fault record and the byte that ended the run, by RUN: while RUN is not FAULTED nothing has written the record (R32),
in FAULTED it names the unimplemented byte PC still stands on (R172), and in HALTED the byte before PC is HLT (R160). -/
def runConsistent (s : State) : Bool :=
  match s.run with
  | .running => decide (s.faultOpcode = 0x00) && decide (s.faultPc = 0x0000)
  | .halted =>
    decide (s.faultOpcode = 0x00) && decide (s.faultPc = 0x0000) && decide (memRead (s.pc - 1) s = 0x76)
  | .faulted =>
    decide (s.faultPc = s.pc) && decide (memRead s.pc s = s.faultOpcode) && unimplementedOpcodes.contains s.faultOpcode

/-- The invariant of the machine: memory in canonical form, INTE at 0 (R30), and RUN consistent with the fault record. -/
def Inv (s : State) : Prop := Memory.wf s.mem = true ∧ s.inte = false ∧ runConsistent s = true

end Sys2Proof.Machine
end

