-- ==== Sys2Proof/Certificates/Slice0/Obligations.lean ====
section
/-! DEFINITION. The statements for the provers. -/

open Sys2Proof Sys2Proof.Machine

/-! ### Encoding -/

/-- Decoding the encoding of a well-formed instruction gives it back, whatever follows, with every operand at every value.
Rests on the opcode map and the patterns, the spec's general knowledge (D1, G1 to G5; log 2). -/
def Obligations.DecodeOfEncodeIsTheInstruction : Prop :=
  ∀ (i : Instr) (rest : List Byte), i.wellFormed = true → decode (encode i ++ rest) = .ok (i, rest)

/-- What the decoder reads is well formed and encodes to exactly the bytes it consumed.
Rests on the opcode map and the patterns, the spec's general knowledge (D1, G1 to G5; log 2). -/
def Obligations.EncodeOfDecodeIsTheBytes : Prop :=
  ∀ (bytes : List Byte) (i : Instr) (rest : List Byte),
    decode bytes = .ok (i, rest) → i.wellFormed = true ∧ encode i ++ rest = bytes

/-- R74: for every opcode byte the decoder answers an instruction of that opcode byte or "unimplemented", and its length
depends on the byte alone; R71: 48 bytes are unimplemented. The bytes are the spec's general knowledge (D1, D2, D3, D4, G1). -/
def Obligations.DecodingIsTotalOnOpcodeBytes : Prop :=
  (unimplementedOpcodes.length = 48 ∧ unimplementedOpcodes.Nodup) ∧
  ∀ opcode : Byte, ∃ n, (n = 0 ∨ n = 1 ∨ n = 2) ∧ ∀ (second third : Byte) (rest : List Byte), ∃ i,
    decode (opcode :: second :: third :: rest) = .ok (i, (second :: third :: rest).drop n) ∧
    i.form.opcode = opcode ∧ (i = .unimplemented opcode ↔ opcode ∈ unimplementedOpcodes)

/-- R69: the length of an implemented instruction by the pattern of its opcode byte.
The patterns are the spec's general knowledge (G1, G2; log 2). -/
def Obligations.LengthFollowsFromTheOpcode : Prop :=
  ∀ opcode second third : Byte, opcode ∉ unimplementedOpcodes → ∃ i,
    decode [opcode, second, third] = .ok (i, [second, third].drop (i.length - 1)) ∧
    i.length =
      if opcode &&& 0b11001111 = 0b00000001 ∨ opcode ∈ [0x22, 0x2A, 0x32, 0x3A, 0xC3] ∨ opcode &&& 0b11000111 = 0b11000010
      then 3
      else if opcode &&& 0b11000111 = 0b00000110 ∨ opcode &&& 0b11000111 = 0b11000110 then 2
      else 1

/-- One word of every family, written out from the encoding line of its rule. The bytes are the spec's general knowledge
(G1; log 2) but for 3E, 3C, 76 and FF, which the source gives. -/
def Obligations.WordsOfEveryFamilyDecode : Prop :=
  DecodesTo [0x78] .movAB ∧ DecodesTo [0x3C] .inrA ∧ DecodesTo [0x1B] .dcxD ∧ DecodesTo [0x39] .dadSp ∧
  DecodesTo [0x9D] .sbbL ∧ DecodesTo [0xFE, 0x40] (.cpi 0x40) ∧ DecodesTo [0xAE] .xraM ∧ DecodesTo [0x1F] .rar ∧
  DecodesTo [0x3E, 0x05] (.mviA 0x05) ∧ DecodesTo [0x31, 0x00, 0x24] (.lxiSp 0x2400) ∧
  DecodesTo [0x32, 0xB3, 0x05] (.sta 0x05B3) ∧ DecodesTo [0x1A] .ldaxD ∧ DecodesTo [0xF5] .pushPsw ∧
  DecodesTo [0xFA, 0x34, 0x12] (.jm 0x1234) ∧ DecodesTo [0x76] .hlt ∧ DecodesTo [0x3F] .cmc ∧
  DecodesTo [0xFF] (.unimplemented 0xFF)

/-! ### The step and the run state -/

/-- A step in RUNNING, where the bytes at PC, PC+1, PC+2 decode to an instruction, is the execution of that instruction, and
nothing is added around it: the instruction itself moves PC (R8). -/
def Obligations.StepRunsTheDecodedInstruction : Prop :=
  ∀ (s : State) (i : Instr) (rest : List Byte), s.run = .running →
    decode [memRead s.pc s, memRead (s.pc + 1) s, memRead (s.pc + 2) s] = .ok (i, rest) → step s = exec i s

/-- R31 and R195: no transition leaves HALTED or FAULTED (D11); every step from RUNNING completes, in HALTED on HLT, in
FAULTED on an unimplemented opcode, and else in RUNNING; a reset with an image that fits ends in RUNNING. -/
def Obligations.RunStateTransitions : Prop :=
  (∀ s : State,
    (s.run = .halted → step s = .fault .stepWhileHalted) ∧
    (s.run = .faulted → step s = .fault .stepWhileFaulted) ∧
    (s.run = .running → ∃ t, step s = .next t ∧
      t.run = if memRead s.pc s = 0x76 then .halted
        else if memRead s.pc s ∈ unimplementedOpcodes then .faulted else .running)) ∧
  (∀ image : List Byte, 1 ≤ image.length → image.length ≤ 65536 →
    ∃ t, resetImage image = .next t ∧ t.run = .running)

/-- R168, R171, R172: an unimplemented opcode records itself and PC, ends the run in FAULTED, and changes nothing else.
That nothing else changes and PC stays is the spec's choice D10, and which bytes they are D2 to D4 and G1. -/
def Obligations.UnimplementedOpcodeFaults : Prop :=
  (∀ opcode : Byte, opcode ∈ unimplementedOpcodes → ∃ i, DecodesTo [opcode] i ∧
    ∀ s : State, exec i s = .next { s with faultOpcode := opcode, faultPc := s.pc, run := .faulted }) ∧
  (∀ s : State, s.run = .running → memRead s.pc s ∈ unimplementedOpcodes →
    step s = .next { s with faultOpcode := memRead s.pc s, faultPc := s.pc, run := .faulted })

/-- R32: the fault record is 0 after reset (D10), is written by the step that raises UnimplementedInstruction with the opcode
byte and PC at the fetch, and by no other step. -/
def Obligations.FaultRecordIsWrittenByTheFaultOnly : Prop :=
  State.reset.faultOpcode = 0x00 ∧ State.reset.faultPc = 0x0000 ∧
  ∀ s : State, s.run = .running → ∃ t, step s = .next t ∧
    (memRead s.pc s ∈ unimplementedOpcodes → t.faultOpcode = memRead s.pc s ∧ t.faultPc = s.pc ∧ t.pc = s.pc) ∧
    (memRead s.pc s ∉ unimplementedOpcodes → t.faultOpcode = s.faultOpcode ∧ t.faultPc = s.faultPc)

/-- R30: INTE is 0 after reset (D20), no instruction writes it, no instruction reads it, and EI (FB) and DI (F3) are
unimplemented (D7). -/
def Obligations.InterruptLatchIsInert : Prop :=
  State.reset.inte = false ∧ DecodesTo [0xFB] (.unimplemented 0xFB) ∧ DecodesTo [0xF3] (.unimplemented 0xF3) ∧
  ∀ (i : Instr) (s : State) (v : Bool), ∃ t, exec i s = .next t ∧ t.inte = s.inte ∧
    exec i { s with inte := v } = .next { t with inte := v }

/-- A step keeps the invariant: memory in canonical form, INTE at 0, the fault record unwritten until the fault, PC in FAULTED
on the recorded unimplemented byte (D10), the byte before PC in HALTED HLT (D9). -/
def Obligations.StepKeepsTheInvariant : Prop := ∀ s t : State, Inv s → step s = .next t → Inv t

/-- The invariant holds at State.reset: memory in canonical form, INTE at 0, RUN at RUNNING with the fault record unwritten (R35).
That INTE is 0 is the spec's decision D20 (log 15), that the fault record is 0 is D10 (log 8), and State.reset itself is the
model's choice of log 4. -/
def Obligations.InvariantAtReset : Prop := Inv State.reset

/-- The invariant holds after the reset of any image that is accepted (R193): memory in canonical form, INTE at 0, RUN at RUNNING
with the fault record unwritten. That INTE is 0 is the spec's decision D20 (log 15), that the fault record is 0 is D10 (log 8). -/
def Obligations.InvariantAfterResetOfAnImage : Prop :=
  ∀ (image : List Byte) (s : State), resetImage image = .next s → Inv s

/-! ### What instructions write, over all of them -/

/-- R21: every flag outside an instruction's row of the table keeps its value; what the flags of the row become stands in the
statements of each family. -/
def Obligations.FlagsOutsideTheTableRowAreKept : Prop :=
  ∀ (i : Instr) (s : State), ∃ t, exec i s = .next t ∧ KeepsFlags (flagsWritten i) s t

/-- R21: AC is read by PUSH PSW only; any other instruction, run with another AC, does the same to everything but AC.
Holds for every AC_RULE (log 1). -/
def Obligations.AuxCarryIsReadByPushPswOnly : Prop :=
  ∀ (i : Instr) (s : State) (ac : Bool), i ≠ .pushPsw → ∃ t u, exec i s = .next t ∧
    exec i { s with flags := { s.flags with ac := ac } } = .next u ∧
    t = { u with flags := { u.flags with ac := t.flags.ac } }

/-- R15: SP is written by LXI SP, INX SP, DCX SP, PUSH and POP only. -/
def Obligations.StackPointerWriters : Prop :=
  ∀ (i : Instr) (s : State), ∃ t, exec i s = .next t ∧ (writesSp i = false → t.sp = s.sp)

/-- R11, R12: an instruction writes no general register beyond its destination. -/
def Obligations.RegistersAreWrittenByDestinationOnly : Prop :=
  ∀ (i : Instr) (s : State), ∃ t, exec i s = .next t ∧ KeepsRegisters (registersWritten i) s t

/-- R49: every byte of memory outside the addresses an instruction's row of the table stores to reads as before; what is stored
at those addresses stands in the statements of each family. -/
def Obligations.MemoryIsWrittenAtStoreAddressesOnly : Prop :=
  ∀ (i : Instr) (s : State), ∃ t, exec i s = .next t ∧ ∀ addr, addr ∉ storeAddresses i s → memRead addr t = memRead addr s

/-- R16, R17: PC moves past the instruction's bytes mod 2^16 (HLT too, D9), except for a jump taken, which sets it, and an
unimplemented opcode, which leaves it (D10). -/
def Obligations.ProgramCounterAfterAnInstruction : Prop :=
  ∀ (i : Instr) (s : State), ∃ t, exec i s = .next t ∧
    t.pc = match i.form with
      | .jmp a16 => a16
      | .jcc ccc a16 => if condition ccc s.flags then a16 else s.pc + 3
      | .unimplemented _ => s.pc
      | _ => s.pc + BitVec.ofNat 16 i.length

/-! ### Register transfer -/

/-- R80: MOV r1,r2, the 49 register to register forms (movBB to movAA). Opcode bytes: G1, log 2. -/
def Obligations.MovRegisterToRegister : Prop :=
  ∀ (dst src : Reg8) (s : State), ∃ i, DecodesTo [0b01#2 ++ dst.code ++ src.code] i ∧ ∃ t, exec i s = .next t ∧
    getReg dst t = getReg src s ∧ t.pc = s.pc + 1 ∧ Frame [dst] [] [] s t

/-- R81: MOV r,M, the 7 memory to register forms; the address is formed from the old H and L. Opcode bytes: G1, log 2. -/
def Obligations.MovMemoryToRegister : Prop :=
  ∀ (dst : Reg8) (s : State), ∃ i, DecodesTo [0b01#2 ++ dst.code ++ 0b110#3] i ∧ ∃ t, exec i s = .next t ∧
    getReg dst t = memRead (getPair .hl s) s ∧ t.pc = s.pc + 1 ∧ Frame [dst] [] [] s t

/-- R82: MOV M,r, the 7 register to memory forms; the byte at HL is stored and no other. Opcode bytes: G1, log 2. -/
def Obligations.MovRegisterToMemory : Prop :=
  ∀ (src : Reg8) (s : State), ∃ i, DecodesTo [0b01110#5 ++ src.code] i ∧ ∃ t, exec i s = .next t ∧
    memRead (getPair .hl s) t = getReg src s ∧ t.pc = s.pc + 1 ∧ Frame [] [] [getPair .hl s] s t

/-! ### Increment, decrement, double-register add -/

/-- R85: INR r, all 7 registers; CY is kept, AC by AC_RULE (log 1). Opcode bytes but 3C: G1, log 2. -/
def Obligations.IncrementRegister : Prop :=
  ∀ (r : Reg8) (s : State), ∃ i, DecodesTo [0b00#2 ++ r.code ++ 0b100#3] i ∧ ∃ t, exec i s = .next t ∧
    getReg r t = getReg r s + 1 ∧ IncDecFlags .inr (getReg r s) (getReg r s + 1) s t ∧ t.pc = s.pc + 1 ∧
    Frame [r] [.z, .s, .p, .ac] [] s t

/-- R86: INR M; the byte at HL is stored and no other. AC by AC_RULE (log 1). Opcode byte: G1, log 2. -/
def Obligations.IncrementMemory : Prop :=
  ∀ s : State, ∃ i, DecodesTo [0x34] i ∧ ∃ t, exec i s = .next t ∧
    memRead (getPair .hl s) t = memRead (getPair .hl s) s + 1 ∧
    IncDecFlags .inr (memRead (getPair .hl s) s) (memRead (getPair .hl s) s + 1) s t ∧ t.pc = s.pc + 1 ∧
    Frame [] [.z, .s, .p, .ac] [getPair .hl s] s t

/-- R87: DCR r, all 7 registers; CY is kept, AC by AC_RULE (log 1). Opcode bytes: G1, log 2. -/
def Obligations.DecrementRegister : Prop :=
  ∀ (r : Reg8) (s : State), ∃ i, DecodesTo [0b00#2 ++ r.code ++ 0b101#3] i ∧ ∃ t, exec i s = .next t ∧
    getReg r t = getReg r s - 1 ∧ IncDecFlags .dcr (getReg r s) (getReg r s - 1) s t ∧ t.pc = s.pc + 1 ∧
    Frame [r] [.z, .s, .p, .ac] [] s t

/-- R88: DCR M; the byte at HL is stored and no other. AC by AC_RULE (log 1). Opcode byte: G1, log 2. -/
def Obligations.DecrementMemory : Prop :=
  ∀ s : State, ∃ i, DecodesTo [0x35] i ∧ ∃ t, exec i s = .next t ∧
    memRead (getPair .hl s) t = memRead (getPair .hl s) s - 1 ∧
    IncDecFlags .dcr (memRead (getPair .hl s) s) (memRead (getPair .hl s) s - 1) s t ∧ t.pc = s.pc + 1 ∧
    Frame [] [.z, .s, .p, .ac] [getPair .hl s] s t

/-- R85 to R88, and the source's property X1: INR then DCR of the same operand restores it, for every register and for M, and CY
is as it was; FF increments to 00 and 00 decrements to FF. Opcode bytes but 3C: G1, log 2. -/
def Obligations.IncrementThenDecrementRestores : Prop :=
  ∀ (o : Operand8) (s : State), ∃ i j, DecodesTo [0b00#2 ++ o.code ++ 0b100#3] i ∧
    DecodesTo [0b00#2 ++ o.code ++ 0b101#3] j ∧
    (∃ t, execAll [i, j] s = .next t ∧ opnd8 o t = opnd8 o s ∧ t.flags.cy = s.flags.cy ∧ t.run = s.run) ∧
    (opnd8 o s = 0xFF → ∃ t, exec i s = .next t ∧ opnd8 o t = 0x00 ∧ t.flags.z = true ∧ t.run = s.run) ∧
    (opnd8 o s = 0x00 → ∃ t, exec j s = .next t ∧ opnd8 o t = 0xFF ∧ t.flags.z = false ∧ t.run = s.run)

/-- R89, R90: INX and DCX of BC, DE and HL move the pair by 1 mod 2^16, of SP (D5) move SP; no flag.
Opcode bytes: G1, log 2. -/
def Obligations.IncrementAndDecrementPair : Prop :=
  ∀ (p : Rp16) (s : State),
    (∃ i, DecodesTo [0b00#2 ++ p.code ++ 0b0011#4] i ∧ ∃ t, exec i s = .next t ∧ getRp16 p t = getRp16 p s + 1 ∧
      t.pc = s.pc + 1 ∧ t.sp = (if p = .sp then s.sp + 1 else s.sp) ∧ t.flags = s.flags ∧ t.run = s.run ∧
      KeepsRegisters (rp16Registers p) s t ∧ KeepsMemory [] s t ∧ KeepsControl s t) ∧
    (∃ i, DecodesTo [0b00#2 ++ p.code ++ 0b1011#4] i ∧ ∃ t, exec i s = .next t ∧ getRp16 p t = getRp16 p s - 1 ∧
      t.pc = s.pc + 1 ∧ t.sp = (if p = .sp then s.sp - 1 else s.sp) ∧ t.flags = s.flags ∧ t.run = s.run ∧
      KeepsRegisters (rp16Registers p) s t ∧ KeepsMemory [] s t ∧ KeepsControl s t)

/-- R91: DAD adds BC, DE, HL or SP into HL; CY is the carry out of bit 15 and no other flag is written.
Opcode bytes: G1, log 2. -/
def Obligations.DoubleRegisterAdd : Prop :=
  ∀ (p : Rp16) (s : State), ∃ i, DecodesTo [0b00#2 ++ p.code ++ 0b1001#4] i ∧ ∃ t, exec i s = .next t ∧
    65536 * t.flags.cy.toNat + (getPair .hl t).toNat = (getPair .hl s).toNat + (getRp16 p s).toNat ∧
    t.pc = s.pc + 1 ∧ Frame [.h, .l] [.cy] [] s t

/-! ### Accumulator arithmetic -/

/-- R96, R97, R100, R101: ADD and ADC of the 8 operands (M: D6), ADI and ACI. AC by AC_RULE (log 1). Opcode bytes: G1, log 2. -/
def Obligations.AddAndAddWithCarry : Prop :=
  ∀ (src : Operand8) (d8 : Byte) (s : State),
    (∃ i, DecodesTo [0b10000#5 ++ src.code] i ∧
      ArithmeticEffect i s 1 .add (opnd8 src s) false (s.a.setWidth 16 + (opnd8 src s).setWidth 16) false) ∧
    (∃ i, DecodesTo [0b10001#5 ++ src.code] i ∧
      ArithmeticEffect i s 1 .adc (opnd8 src s) s.flags.cy
        (s.a.setWidth 16 + (opnd8 src s).setWidth 16 + if s.flags.cy then 1 else 0) false) ∧
    (∃ i, DecodesTo [0xC6, d8] i ∧
      ArithmeticEffect i s 2 .add d8 false (s.a.setWidth 16 + d8.setWidth 16) false) ∧
    (∃ i, DecodesTo [0xCE, d8] i ∧
      ArithmeticEffect i s 2 .adc d8 s.flags.cy (s.a.setWidth 16 + d8.setWidth 16 + if s.flags.cy then 1 else 0) false)

/-- R98, R99, R102, R104: SUB and SBB of the 8 operands (M: D6), SUI and SBI; the raw result is taken mod 2^16 (D27).
AC by AC_RULE (log 1). Opcode bytes: G1, log 2. -/
def Obligations.SubtractAndSubtractWithBorrow : Prop :=
  ∀ (src : Operand8) (d8 : Byte) (s : State),
    (∃ i, DecodesTo [0b10010#5 ++ src.code] i ∧
      ArithmeticEffect i s 1 .sub (opnd8 src s) false (s.a.setWidth 16 - (opnd8 src s).setWidth 16) false) ∧
    (∃ i, DecodesTo [0b10011#5 ++ src.code] i ∧
      ArithmeticEffect i s 1 .sbb (opnd8 src s) s.flags.cy
        (s.a.setWidth 16 - (opnd8 src s).setWidth 16 - if s.flags.cy then 1 else 0) false) ∧
    (∃ i, DecodesTo [0xD6, d8] i ∧
      ArithmeticEffect i s 2 .sub d8 false (s.a.setWidth 16 - d8.setWidth 16) false) ∧
    (∃ i, DecodesTo [0xDE, d8] i ∧
      ArithmeticEffect i s 2 .sbb d8 s.flags.cy (s.a.setWidth 16 - d8.setWidth 16 - if s.flags.cy then 1 else 0) false)

/-- R103, R105: CMP of the 8 operands (M: D6, log 5) and CPI write the flags of A - s and not A; Z = 1 iff A = s, CY = 1 iff A < s.
The raw difference mod 2^16 and CY as the borrow are the spec's decision D27 (log 16). AC by AC_RULE (log 1).
Opcode bytes: G1, log 2. -/
def Obligations.CompareLeavesTheAccumulator : Prop :=
  ∀ (src : Operand8) (d8 : Byte) (s : State),
    (∃ i, DecodesTo [0b10111#5 ++ src.code] i ∧
      ArithmeticEffect i s 1 .cmp (opnd8 src s) false (s.a.setWidth 16 - (opnd8 src s).setWidth 16) true ∧
      ∃ t, exec i s = .next t ∧ (t.flags.z = true ↔ s.a = opnd8 src s) ∧ (t.flags.cy = true ↔ s.a < opnd8 src s)) ∧
    (∃ i, DecodesTo [0xFE, d8] i ∧
      ArithmeticEffect i s 2 .cmp d8 false (s.a.setWidth 16 - d8.setWidth 16) true ∧
      ∃ t, exec i s = .next t ∧ (t.flags.z = true ↔ s.a = d8) ∧ (t.flags.cy = true ↔ s.a < d8))

/-- R106: the identities of the family in exact arithmetic, for every operand; CMP gives Z, S, P and CY of SUB (its AC has a
kind of its own in AC_RULE, log 1). CY as the borrow is the spec's decision D27 (log 16), the M operand D6 (log 5).
Opcode bytes: G1, log 2. -/
def Obligations.ArithmeticIdentities : Prop :=
  ∀ (src : Operand8) (s : State), ∃ add adc sub sbb cmp tAdd tAdc tSub tSbb tCmp,
    DecodesTo [0b10000#5 ++ src.code] add ∧ exec add s = .next tAdd ∧
    DecodesTo [0b10001#5 ++ src.code] adc ∧ exec adc s = .next tAdc ∧
    DecodesTo [0b10010#5 ++ src.code] sub ∧ exec sub s = .next tSub ∧
    DecodesTo [0b10011#5 ++ src.code] sbb ∧ exec sbb s = .next tSbb ∧
    DecodesTo [0b10111#5 ++ src.code] cmp ∧ exec cmp s = .next tCmp ∧
    256 * tAdd.flags.cy.toNat + tAdd.a.toNat = s.a.toNat + (opnd8 src s).toNat ∧
    256 * tAdc.flags.cy.toNat + tAdc.a.toNat = s.a.toNat + (opnd8 src s).toNat + s.flags.cy.toNat ∧
    (tSub.a.toNat : Int) - 256 * tSub.flags.cy.toNat = s.a.toNat - (opnd8 src s).toNat ∧
    (tSbb.a.toNat : Int) - 256 * tSbb.flags.cy.toNat = s.a.toNat - (opnd8 src s).toNat - s.flags.cy.toNat ∧
    tCmp.a = s.a ∧ tCmp.flags.z = tSub.flags.z ∧ tCmp.flags.s = tSub.flags.s ∧ tCmp.flags.p = tSub.flags.p ∧
    tCmp.flags.cy = tSub.flags.cy

/-! ### Logic -/

/-- R110 to R116: ANA, XRA, ORA of the 8 operands and ANI, XRI, ORI; CY is cleared. AC by AC_RULE (log 1).
Opcode bytes: G1, log 2. -/
def Obligations.LogicOperations : Prop :=
  ∀ (src : Operand8) (d8 : Byte) (s : State),
    (∃ i, DecodesTo [0b10100#5 ++ src.code] i ∧ LogicEffect i s 1 .ana (opnd8 src s) (s.a &&& opnd8 src s)) ∧
    (∃ i, DecodesTo [0b10101#5 ++ src.code] i ∧ LogicEffect i s 1 .xra (opnd8 src s) (s.a ^^^ opnd8 src s)) ∧
    (∃ i, DecodesTo [0b10110#5 ++ src.code] i ∧ LogicEffect i s 1 .ora (opnd8 src s) (s.a ||| opnd8 src s)) ∧
    (∃ i, DecodesTo [0xE6, d8] i ∧ LogicEffect i s 2 .ana d8 (s.a &&& d8)) ∧
    (∃ i, DecodesTo [0xEE, d8] i ∧ LogicEffect i s 2 .xra d8 (s.a ^^^ d8)) ∧
    (∃ i, DecodesTo [0xF6, d8] i ∧ LogicEffect i s 2 .ora d8 (s.a ||| d8))

/-! ### Rotate, complement and carry -/

/-- R120 to R124: the four rotates of A; CY takes the bit shifted out and no other flag is written.
Directions: D19; opcode bytes: G1, log 2. -/
def Obligations.Rotates : Prop :=
  ∀ s : State,
    (DecodesTo [0x07] .rlc ∧ ∃ t, exec .rlc s = .next t ∧ t.a = (s.a <<< 1) ||| (s.a >>> 7) ∧
      t.flags.cy = s.a.getLsbD 7 ∧ t.pc = s.pc + 1 ∧ Frame [.a] [.cy] [] s t) ∧
    (DecodesTo [0x0F] .rrc ∧ ∃ t, exec .rrc s = .next t ∧ t.a = (s.a >>> 1) ||| (s.a <<< 7) ∧
      t.flags.cy = s.a.getLsbD 0 ∧ t.pc = s.pc + 1 ∧ Frame [.a] [.cy] [] s t) ∧
    (DecodesTo [0x17] .ral ∧ ∃ t, exec .ral s = .next t ∧ t.a = (s.a <<< 1) ||| (if s.flags.cy then 0x01 else 0x00) ∧
      t.flags.cy = s.a.getLsbD 7 ∧ t.pc = s.pc + 1 ∧ Frame [.a] [.cy] [] s t) ∧
    (DecodesTo [0x1F] .rar ∧ ∃ t, exec .rar s = .next t ∧ t.a = (s.a >>> 1) ||| (if s.flags.cy then 0x80 else 0x00) ∧
      t.flags.cy = s.a.getLsbD 0 ∧ t.pc = s.pc + 1 ∧ Frame [.a] [.cy] [] s t)

/-- R120 to R123, R161, R163: eight RLC or RRC restore A, nine RAL or RAR restore A and CY, RLC then RRC and RAL then RAR
undo each other, two CMA restore A, two CMC restore CY. Directions: D19. -/
def Obligations.RotatesAndComplementsCycle : Prop :=
  ∀ s : State,
    (∃ t, execAll (List.replicate 8 .rlc) s = .next t ∧ t.a = s.a) ∧
    (∃ t, execAll (List.replicate 8 .rrc) s = .next t ∧ t.a = s.a) ∧
    (∃ t, execAll (List.replicate 9 .ral) s = .next t ∧ t.a = s.a ∧ t.flags = s.flags) ∧
    (∃ t, execAll (List.replicate 9 .rar) s = .next t ∧ t.a = s.a ∧ t.flags = s.flags) ∧
    (∃ t, execAll [.rlc, .rrc] s = .next t ∧ t.a = s.a ∧ t.flags.cy = s.a.getLsbD 7) ∧
    (∃ t, execAll [.ral, .rar] s = .next t ∧ t.a = s.a ∧ t.flags = s.flags) ∧
    (∃ t, execAll [.cma, .cma] s = .next t ∧ t.a = s.a ∧ t.flags = s.flags) ∧
    (∃ t, execAll [.cmc, .cmc] s = .next t ∧ t.a = s.a ∧ t.flags = s.flags)

/-- R161, R162, R163: CMA complements A and writes no flag; STC sets CY and CMC inverts it, and nothing else is written.
Opcode bytes: G1, log 2. -/
def Obligations.ComplementAndCarry : Prop :=
  ∀ s : State,
    (DecodesTo [0x2F] .cma ∧ ∃ t, exec .cma s = .next t ∧ t.a = 0xFF - s.a ∧ t.pc = s.pc + 1 ∧ Frame [.a] [] [] s t) ∧
    (DecodesTo [0x37] .stc ∧ ∃ t, exec .stc s = .next t ∧ t.flags.cy = true ∧ t.pc = s.pc + 1 ∧ Frame [] [.cy] [] s t) ∧
    (DecodesTo [0x3F] .cmc ∧ ∃ t, exec .cmc s = .next t ∧ t.flags.cy = !s.flags.cy ∧ t.pc = s.pc + 1 ∧
      Frame [] [.cy] [] s t)

/-! ### Immediate load -/

/-- R125: MVI r,d8, all 7 registers. Opcode bytes but 3E: G1, log 2. -/
def Obligations.MoveImmediateToRegister : Prop :=
  ∀ (r : Reg8) (d8 : Byte) (s : State), ∃ i, DecodesTo [0b00#2 ++ r.code ++ 0b110#3, d8] i ∧ ∃ t, exec i s = .next t ∧
    getReg r t = d8 ∧ t.pc = s.pc + 2 ∧ Frame [r] [] [] s t

/-- R126: MVI M,d8; the byte at HL is stored and no other. Opcode byte: G1, log 2. -/
def Obligations.MoveImmediateToMemory : Prop :=
  ∀ (d8 : Byte) (s : State), ∃ i, DecodesTo [0x36, d8] i ∧ ∃ t, exec i s = .next t ∧
    memRead (getPair .hl s) t = d8 ∧ t.pc = s.pc + 2 ∧ Frame [] [] [getPair .hl s] s t

/-- R127: LXI rp,d16 for BC, DE, HL and SP (D5); byte 2 is the low byte. Opcode bytes: G1, log 2. -/
def Obligations.LoadImmediatePair : Prop :=
  ∀ (p : Rp16) (low high : Byte) (s : State), ∃ i, DecodesTo [0b00#2 ++ p.code ++ 0b0001#4, low, high] i ∧
    ∃ t, exec i s = .next t ∧ (getRp16 p t).toNat = 256 * high.toNat + low.toNat ∧
    (p ≠ .sp → t.sp = s.sp) ∧ t.pc = s.pc + 3 ∧ t.flags = s.flags ∧ t.run = s.run ∧
    KeepsRegisters (rp16Registers p) s t ∧ KeepsMemory [] s t ∧ KeepsControl s t

/-! ### Direct and pair-indirect memory -/

/-- R130, R131: STA stores A at the address in bytes 2 and 3, LDA loads it. Opcode bytes: G1, log 2. -/
def Obligations.StoreAndLoadAccumulatorDirect : Prop :=
  ∀ (low high : Byte) (s : State),
    (∃ i, DecodesTo [0x32, low, high] i ∧ ∃ t, exec i s = .next t ∧ memRead (joinBytes high low) t = s.a ∧
      t.pc = s.pc + 3 ∧ Frame [] [] [joinBytes high low] s t) ∧
    (∃ i, DecodesTo [0x3A, low, high] i ∧ ∃ t, exec i s = .next t ∧ t.a = memRead (joinBytes high low) s ∧
      t.pc = s.pc + 3 ∧ Frame [.a] [] [] s t)

/-- R132, R133: SHLD stores L at the address and H at the address plus one mod 2^16, LHLD loads them back (byte order: D15).
Opcode bytes: G1, log 2. -/
def Obligations.StoreAndLoadHLDirect : Prop :=
  ∀ (low high : Byte) (s : State),
    (∃ i, DecodesTo [0x22, low, high] i ∧ ∃ t, exec i s = .next t ∧ memRead (joinBytes high low) t = s.l ∧
      memRead (joinBytes high low + 1) t = s.h ∧ t.pc = s.pc + 3 ∧
      Frame [] [] [joinBytes high low, joinBytes high low + 1] s t) ∧
    (∃ i, DecodesTo [0x2A, low, high] i ∧ ∃ t, exec i s = .next t ∧ t.l = memRead (joinBytes high low) s ∧
      t.h = memRead (joinBytes high low + 1) s ∧ t.pc = s.pc + 3 ∧ Frame [.h, .l] [] [] s t)

/-- R134, R135: STAX stores A at the address in BC or DE, LDAX loads it (no other pair: D18). Opcode bytes: G1, log 2. -/
def Obligations.StoreAndLoadAccumulatorByPair : Prop :=
  ∀ (p : IndexPair) (s : State),
    (∃ i, DecodesTo [0b000#3 ++ p.code ++ 0b0010#4] i ∧ ∃ t, exec i s = .next t ∧
      memRead (indexAddress p s) t = s.a ∧ t.pc = s.pc + 1 ∧ Frame [] [] [indexAddress p s] s t) ∧
    (∃ i, DecodesTo [0b000#3 ++ p.code ++ 0b1010#4] i ∧ ∃ t, exec i s = .next t ∧
      t.a = memRead (indexAddress p s) s ∧ t.pc = s.pc + 1 ∧ Frame [.a] [] [] s t)

/-! ### Stack -/

/-- R141, R142: PUSH of BC, DE, HL and the PSW: SP down by 2, the low byte at the new SP, the high byte at SP + 1; of the
PSW A is the high byte and the packed flags the low one (D16). Opcode bytes: G1, log 2. -/
def Obligations.PushStoresTwoBytes : Prop :=
  ∀ (p : StackPair) (s : State), ∃ i, DecodesTo [0b11#2 ++ p.code ++ 0b0101#4] i ∧ ∃ t, exec i s = .next t ∧
    (memRead (s.sp - 1) t, memRead (s.sp - 2) t) =
      (match p with
        | .bc => (s.b, s.c)
        | .de => (s.d, s.e)
        | .hl => (s.h, s.l)
        | .psw => (s.a, packFlags s.flags)) ∧
    t.sp = s.sp - 2 ∧ t.pc = s.pc + 1 ∧ t.flags = s.flags ∧ t.run = s.run ∧ KeepsRegisters [] s t ∧
    KeepsMemory [s.sp - 2, s.sp - 1] s t ∧ KeepsControl s t

/-- R143, R144: POP into BC, DE, HL and the PSW: the low byte from SP, the high byte from SP + 1, SP up by 2, memory as it was;
into the PSW A takes the high byte (D16) and the flags bits 6, 7, 2, 0, 4 of the low one (D17). Opcode bytes: G1, log 2. -/
def Obligations.PopLoadsTwoBytes : Prop :=
  ∀ (p : StackPair) (s : State), ∃ i, DecodesTo [0b11#2 ++ p.code ++ 0b0001#4] i ∧ ∃ t, exec i s = .next t ∧
    (match p with
      | .bc => (t.b, t.c) = (memRead (s.sp + 1) s, memRead s.sp s) ∧ t.flags = s.flags
      | .de => (t.d, t.e) = (memRead (s.sp + 1) s, memRead s.sp s) ∧ t.flags = s.flags
      | .hl => (t.h, t.l) = (memRead (s.sp + 1) s, memRead s.sp s) ∧ t.flags = s.flags
      | .psw => t.a = memRead (s.sp + 1) s ∧ t.flags.z = (memRead s.sp s).getLsbD 6 ∧
          t.flags.s = (memRead s.sp s).getLsbD 7 ∧ t.flags.p = (memRead s.sp s).getLsbD 2 ∧
          t.flags.cy = (memRead s.sp s).getLsbD 0 ∧ t.flags.ac = (memRead s.sp s).getLsbD 4) ∧
    t.sp = s.sp + 2 ∧ t.pc = s.pc + 1 ∧ t.run = s.run ∧ KeepsRegisters (stackPairRegisters p) s t ∧
    KeepsMemory [] s t ∧ KeepsControl s t

/-- R143, R144 and the source's property X4: PUSH then POP of one pair restores every register and flag and SP, at every SP.
Opcode bytes: G1, log 2. -/
def Obligations.PushThenPopRestores : Prop :=
  ∀ (p : StackPair) (s : State), ∃ i j, DecodesTo [0b11#2 ++ p.code ++ 0b0101#4] i ∧
    DecodesTo [0b11#2 ++ p.code ++ 0b0001#4] j ∧ ∃ t, execAll [i, j] s = .next t ∧
    KeepsRegisters [] s t ∧ t.flags = s.flags ∧ t.sp = s.sp ∧ t.pc = s.pc + 2 ∧
    KeepsMemory [s.sp - 2, s.sp - 1] s t ∧ t.run = s.run

/-! ### Jumps and halt -/

/-- R145 to R154: JMP sets PC to the address in bytes 2 and 3; the eight conditional jumps do so iff their condition holds and
else move past their 3 bytes; nothing else changes. Opcode bytes and condition codes: G1, G5, log 2. -/
def Obligations.Jumps : Prop :=
  ∀ (ccc : Cond) (low high : Byte) (s : State),
    (∃ i, DecodesTo [0xC3, low, high] i ∧ exec i s = .next { s with pc := joinBytes high low }) ∧
    (∃ i, DecodesTo [0b11#2 ++ ccc.code ++ 0b010#3, low, high] i ∧
      exec i s = .next { s with pc := bif (match ccc with
        | .nz => s.flags.z == false
        | .z => s.flags.z == true
        | .nc => s.flags.cy == false
        | .c => s.flags.cy == true
        | .po => s.flags.p == false
        | .pe => s.flags.p == true
        | .p => s.flags.s == false
        | .m => s.flags.s == true) then joinBytes high low else s.pc + 3 })

/-- R160, R83: 76 is HLT and no instruction moves memory to memory; HLT sets RUN to HALTED, moves PC past it (D9), and
changes nothing else. -/
def Obligations.HaltStopsTheRun : Prop :=
  DecodesTo [0x76] .hlt ∧ (∀ i : Instr, i.form ≠ .mov .m .m) ∧
  ∀ s : State, exec .hlt s = .next { s with run := .halted, pc := s.pc + 1 }

/-! ### Pairs, flags, memory -/

/-- R13: a pair reads as its high register times 256 plus its low one; a write splits the value so, reads back, and touches no
other register; writing back what was read changes nothing. -/
def Obligations.PairsComposeTwoRegisters : Prop :=
  ∀ (p : Pair) (v : Word) (s : State),
    (∀ hi lo, (p, hi, lo) ∈ [(Pair.bc, Reg8.b, Reg8.c), (.de, .d, .e), (.hl, .h, .l)] →
      (getPair p s).toNat = 256 * (getReg hi s).toNat + (getReg lo s).toNat ∧
      getReg hi (setPair p v s) = v.extractLsb' 8 8 ∧ getReg lo (setPair p v s) = v.extractLsb' 0 8 ∧
      KeepsRegisters [hi, lo] s (setPair p v s)) ∧
    getPair p (setPair p v s) = v ∧ setPair p (getPair p s) s = s

/-- R23: `parity_even(b)` is the negation of the exclusive or of the eight bits, and 1, 0, 1, 0, 1, 0, 1, 0, 1 for the nine
values of the table. -/
def Obligations.ParityIsEvenParity : Prop :=
  (∀ b : Byte, parityEven b = !(b.getLsbD 7 ^^ b.getLsbD 6 ^^ b.getLsbD 5 ^^ b.getLsbD 4 ^^ b.getLsbD 3 ^^ b.getLsbD 2 ^^
    b.getLsbD 1 ^^ b.getLsbD 0)) ∧
  [0x00, 0x01, 0x03, 0x07, 0x0F, 0x1F, 0x3F, 0x7F, 0xFF].map parityEven =
    [true, false, true, false, true, false, true, false, true]

/-- R27: the layout of the packed flag byte; unpacking a packed byte gives the flags back, and packing an unpacked byte b gives
`(b & 0xD5) | 0x02`. That the reserved bits of a popped byte are ignored is D17. -/
def Obligations.FlagByteLayout : Prop :=
  (∀ f : Flags, packFlags f = (if f.s then 0x80 else 0) ||| (if f.z then 0x40 else 0) ||| (if f.ac then 0x10 else 0) |||
    (if f.p then 0x04 else 0) ||| 0x02 ||| (if f.cy then 0x01 else 0)) ∧
  (∀ f : Flags, unpackFlags (packFlags f) = f) ∧
  (∀ b : Byte, packFlags (unpackFlags b) = (b &&& 0xD5) ||| 0x02)

/-- R24: `applyArithmeticFlags(raw16)` writes Z, S, CY, P and A as functions of raw16 and neither AC nor anything else. -/
def Obligations.ArithmeticFlagUpdate : Prop :=
  ∀ (raw : Word) (s : State), ∃ f : Flags,
    applyArithmeticFlags raw s = { s with a := BitVec.ofNat 8 (raw.toNat % 256), flags := f } ∧
    (f.z = true ↔ raw.toNat % 256 = 0) ∧ f.s = raw.getLsbD 7 ∧ (f.cy = true ↔ 256 ≤ raw.toNat) ∧
    f.p = parityEven (BitVec.ofNat 8 (raw.toNat % 256)) ∧ f.ac = s.flags.ac

/-- R40, R41: a byte read after a byte write is the byte written at its address and what it was at every other; a write changes
no other part of the state. -/
def Obligations.MemoryReadAfterWrite : Prop :=
  ∀ (addr other : Word) (v : Byte) (s : State),
    memRead addr (memWrite addr v s) = v ∧ (other ≠ addr → memRead other (memWrite addr v s) = memRead other s) ∧
    { memWrite addr v s with mem := s.mem } = s

/-- R42: a two-byte access is two byte accesses, low byte at the lower address, the second address wrapped mod 2^16; what is
written reads back, and no other byte is written. -/
def Obligations.TwoByteAccess : Prop :=
  ∀ (addr v : Word) (s : State),
    (memRead2 addr s).toNat = 256 * (memRead (addr + 1) s).toNat + (memRead addr s).toNat ∧
    memRead addr (memWrite2 addr v s) = v.extractLsb' 0 8 ∧ memRead (addr + 1) (memWrite2 addr v s) = v.extractLsb' 8 8 ∧
    memRead2 addr (memWrite2 addr v s) = v ∧ KeepsMemory [addr, addr + 1] s (memWrite2 addr v s) ∧
    { memWrite2 addr v s with mem := s.mem } = s

/-- R48: `popWord` takes the low byte at SP and the high byte at SP+1 and moves SP up by 2, writing nothing else; after
`pushWord`, which stores low at SP-2, high at SP-1 and no other byte, it returns what was pushed and restores SP, at every SP. -/
def Obligations.PushWordThenPopWord : Prop :=
  ∀ (high low : Byte) (s : State),
    (pushWord high low s).sp = s.sp - 2 ∧ memRead (s.sp - 2) (pushWord high low s) = low ∧
    memRead (s.sp - 1) (pushWord high low s) = high ∧ KeepsMemory [s.sp - 2, s.sp - 1] s (pushWord high low s) ∧
    { pushWord high low s with mem := s.mem, sp := s.sp } = s ∧
    popLow s = memRead s.sp s ∧ popHigh s = memRead (s.sp + 1) s ∧ popWord s = { s with sp := s.sp + 2 } ∧
    (popHigh (pushWord high low s), popLow (pushWord high low s)) = (high, low) ∧
    (popWord (pushWord high low s)).sp = s.sp

/-- Two memories in canonical form that read alike at every address are equal. -/
def Obligations.CanonicalMemoriesAreEqualWhenReadAlike : Prop :=
  ∀ m n : Memory, Memory.wf m = true → Memory.wf n = true →
    (∀ addr : Word, Memory.read m addr.toNat = Memory.read n addr.toNat) → m = n

/-- R55, R201, for the store of STA: the byte that STA stores at the address of the next instruction is the opcode fetched next;
with A = 76 that instruction is HLT. That every address can be stored to and the next fetch sees it is the spec's decision D14
(log 11), that PC ends one past HLT is D9 (log 7), that 32 is STA is G1 (log 2). -/
def Obligations.StoreIsSeenByTheNextFetch : Prop :=
  ∀ s : State, s.run = .running → memRead s.pc s = 0x32 → memRead (s.pc + 1) s = lowByte (s.pc + 3) →
    memRead (s.pc + 2) s = highByte (s.pc + 3) →
    ∃ t, step s = .next t ∧ t.pc = s.pc + 3 ∧ fetchOpcode t = s.a ∧
      (s.a = 0x76 → ∃ u, step t = .next u ∧ u.run = .halted ∧ u.pc = s.pc + 4)

/-! ### Reset -/

/-- R190 to R193, R173, R35: an empty image is rejected as EmptyImage; an image of 1 to 65,536 bytes sets every register, flag
and PC to 0 (SP and INTE: D20, log 15, the fault record: D10, log 8), RUN to RUNNING and memory to the image followed by 0x00; a
longer image has no meaning (D13, log 10). The last clause, that the reset of the image 00 is State.reset, is the model's own
choice of State.reset (DESIGN CHOICE, log 4). -/
def Obligations.ResetLoadsTheImage : Prop :=
  resetImage [] = .fault .emptyImage ∧
  (∀ image : List Byte, 65536 < image.length → resetImage image = .refused (.imageTooLong image.length)) ∧
  (∀ image : List Byte, 1 ≤ image.length → image.length ≤ 65536 → ∃ t, resetImage image = .next t ∧
    (∀ r, getReg r t = 0x00) ∧ t.sp = 0x0000 ∧ t.pc = 0x0000 ∧ (∀ n, getFlag n t.flags = false) ∧ t.inte = false ∧
    t.run = .running ∧ t.faultOpcode = 0x00 ∧ t.faultPc = 0x0000 ∧
    ∀ addr : Word, memRead addr t = image.getD addr.toNat 0x00) ∧
  resetImage [0x00] = .next State.reset

/-- An instruction placed by `withFetchWord` is the one the very next step executes (log 4). -/
def Obligations.PlacedInstructionIsTheNextStep : Prop :=
  ∀ (s : State) (nbits w : Nat) (i : Instr), decodeTableWord nbits w = some i →
    step (s.withFetchWord nbits w) = exec i (s.withFetchWord nbits w)
end

