-- ==== Sys2Proof/Laws/Memory.lean ====
section
/-! SUPPORT. The laws of the memory list: read after write, and every operation keeps the canonical form. -/

namespace Sys2Proof.Machine

@[simp] theorem Memory.read_nil (addr : Nat) : Memory.read [] addr = Memory.unlisted := rfl

@[simp] theorem Memory.wf_nil : Memory.wf [] = true := rfl

theorem Memory.read_remove (m : Memory) (addr q : Nat) :
    Memory.read (Memory.remove m addr) q = if q = addr then Memory.unlisted else Memory.read m q := by
  induction m with
  | nil => simp [Memory.remove]
  | cons kv m ih =>
    obtain ⟨k, v⟩ := kv
    by_cases hk : k = addr
    · subst hk
      by_cases hq : q = k
      · subst hq
        simpa [Memory.remove] using ih
      · simp [Memory.remove, Memory.read, ih, hq, Ne.symm hq]
    · by_cases hkq : k = q
      · subst hkq
        simp [Memory.remove, Memory.read, hk]
      · simp [Memory.remove, Memory.read, ih, hk, hkq]

theorem Memory.read_place_ne (m : Memory) (addr q : Nat) (b : Byte) (h : q ≠ addr) :
    Memory.read (Memory.place m addr b) q = Memory.read m q := by
  induction m with
  | nil => simp [Memory.place, Memory.read, Ne.symm h]
  | cons kv m ih =>
    obtain ⟨k, v⟩ := kv
    by_cases hk : addr < k
    · simp [Memory.place, hk, Memory.read, Ne.symm h]
    · simp [Memory.place, hk, Memory.read, ih]

/-- Where no earlier entry names `addr`, the placed byte is the one read. -/
theorem Memory.read_place_same (m : Memory) (addr : Nat) (b : Byte) :
    Memory.read (Memory.place (Memory.remove m addr) addr b) addr = b := by
  induction m with
  | nil => simp [Memory.remove, Memory.place, Memory.read]
  | cons kv m ih =>
    obtain ⟨k, v⟩ := kv
    by_cases hk : k = addr
    · simp [Memory.remove, hk, ih]
    · by_cases hlt : addr < k
      · simp [Memory.remove, hk, Memory.place, hlt, Memory.read]
      · simp [Memory.remove, hk, Memory.place, hlt, Memory.read, ih]

/-- A read after a write: the byte written at its address, and every other byte as before. -/
theorem Memory.read_write (m : Memory) (addr q : Nat) (b : Byte) :
    Memory.read (Memory.write m addr b) q = if q = addr then b else Memory.read m q := by
  unfold Memory.write
  by_cases hb : b = Memory.unlisted
  · simp [hb, Memory.read_remove]
  · by_cases hq : q = addr
    · subst hq
      simp [hb, Memory.read_place_same]
    · simp [hb, hq, Memory.read_place_ne, Memory.read_remove]

theorem Memory.wfFrom_mono {m : Memory} {low low' : Nat} (h : Memory.wfFrom low m = true) (hl : low' ≤ low) :
    Memory.wfFrom low' m = true := by
  cases m with
  | nil => rfl
  | cons kv m =>
    obtain ⟨k, v⟩ := kv
    simp only [Memory.wfFrom, Bool.and_eq_true, decide_eq_true_eq] at h ⊢
    obtain ⟨⟨⟨h1, h2⟩, h3⟩, h4⟩ := h
    exact ⟨⟨⟨by omega, h2⟩, h3⟩, h4⟩

theorem Memory.wfFrom_remove {m : Memory} {low : Nat} (addr : Nat) (h : Memory.wfFrom low m = true) :
    Memory.wfFrom low (Memory.remove m addr) = true := by
  induction m generalizing low with
  | nil => rfl
  | cons kv m ih =>
    obtain ⟨k, v⟩ := kv
    simp only [Memory.wfFrom, Bool.and_eq_true, decide_eq_true_eq] at h
    obtain ⟨⟨⟨h1, h2⟩, h3⟩, h4⟩ := h
    by_cases hk : k = addr
    · simp only [Memory.remove, hk, if_true]
      exact Memory.wfFrom_mono (ih h4) (by omega)
    · simp [Memory.remove, hk, Memory.wfFrom, h1, h2, h3, ih h4]

theorem Memory.wfFrom_place {m : Memory} {low addr : Nat} {b : Byte} (hm : Memory.wfFrom low m = true)
    (hr : Memory.remove m addr = m) (hl : low ≤ addr) (ha : addr < Memory.size) (hb : b ≠ Memory.unlisted) :
    Memory.wfFrom low (Memory.place m addr b) = true := by
  induction m generalizing low with
  | nil => simp [Memory.place, Memory.wfFrom, hl, ha, hb]
  | cons kv m ih =>
    obtain ⟨k, v⟩ := kv
    simp only [Memory.wfFrom, Bool.and_eq_true, decide_eq_true_eq] at hm
    obtain ⟨⟨⟨h1, h2⟩, h3⟩, h4⟩ := hm
    have hk : k ≠ addr := by
      intro hk
      have hlen : ∀ n : Memory, (Memory.remove n addr).length ≤ n.length := by
        intro n
        induction n with
        | nil => simp [Memory.remove]
        | cons x n ihn =>
          obtain ⟨y, z⟩ := x
          simp only [Memory.remove]
          split <;> simp <;> omega
      have hcut := congrArg List.length hr
      simp only [Memory.remove, hk, if_true, List.length_cons] at hcut
      have := hlen m
      omega
    simp only [Memory.remove, hk, if_false, List.cons.injEq, true_and] at hr
    by_cases hlt : addr < k
    · simp only [Memory.place, hlt, if_true, Memory.wfFrom, Bool.and_eq_true, decide_eq_true_eq]
      exact ⟨⟨⟨hl, ha⟩, hb⟩, ⟨⟨by omega, h2⟩, h3⟩, h4⟩
    · simp only [Memory.place, hlt, if_false, Memory.wfFrom, Bool.and_eq_true, decide_eq_true_eq]
      exact ⟨⟨⟨h1, h2⟩, h3⟩, ih h4 hr (by omega)⟩

theorem Memory.remove_remove (m : Memory) (addr : Nat) :
    Memory.remove (Memory.remove m addr) addr = Memory.remove m addr := by
  induction m with
  | nil => rfl
  | cons kv m ih =>
    obtain ⟨k, v⟩ := kv
    by_cases hk : k = addr
    · simp [Memory.remove, hk, ih]
    · simp [Memory.remove, hk, ih]

/-- A write keeps the canonical form. -/
theorem Memory.wf_write {m : Memory} {addr : Nat} (b : Byte) (h : Memory.wf m = true) (ha : addr < Memory.size) :
    Memory.wf (Memory.write m addr b) = true := by
  unfold Memory.wf Memory.write at *
  by_cases hb : b = Memory.unlisted
  · simpa [hb] using Memory.wfFrom_remove addr h
  · simpa [hb] using Memory.wfFrom_place (Memory.wfFrom_remove addr h) (Memory.remove_remove m addr) (Nat.zero_le _) ha hb

/-- The memory of an image that fits is in canonical form. -/
theorem Memory.wfFrom_ofImage (start : Nat) (image : List Byte) (h : start + image.length ≤ Memory.size) :
    Memory.wfFrom start (Memory.ofImage start image) = true := by
  induction image generalizing start with
  | nil => rfl
  | cons b image ih =>
    simp only [List.length_cons] at h
    have hrest := ih (start + 1) (by omega)
    by_cases hb : b = Memory.unlisted
    · simpa [Memory.ofImage, hb] using Memory.wfFrom_mono hrest (by omega)
    · simp only [Memory.ofImage, hb, if_false, Memory.wfFrom, Bool.and_eq_true, decide_eq_true_eq]
      exact ⟨⟨⟨Nat.le_refl _, by omega⟩, hb⟩, hrest⟩

end Sys2Proof.Machine
end

