-- ==== Sys2Proof/Laws/State.lean ====
section
/-! SUPPORT. One lemma per field per update of State: what each named update writes, and that it writes nothing else. -/

namespace Sys2Proof.Machine

/-! ### `getReg` by name -/

@[simp] theorem getReg_a (s : State) : getReg .a s = s.a := rfl
@[simp] theorem getReg_b (s : State) : getReg .b s = s.b := rfl
@[simp] theorem getReg_c (s : State) : getReg .c s = s.c := rfl
@[simp] theorem getReg_d (s : State) : getReg .d s = s.d := rfl
@[simp] theorem getReg_e (s : State) : getReg .e s = s.e := rfl
@[simp] theorem getReg_h (s : State) : getReg .h s = s.h := rfl
@[simp] theorem getReg_l (s : State) : getReg .l s = s.l := rfl

/-! ### `setReg` -/

@[simp] theorem setReg_a (r : Reg8) (v : Byte) (s : State) : (setReg r v s).a = if r = .a then v else s.a := by cases r <;> rfl
@[simp] theorem setReg_b (r : Reg8) (v : Byte) (s : State) : (setReg r v s).b = if r = .b then v else s.b := by cases r <;> rfl
@[simp] theorem setReg_c (r : Reg8) (v : Byte) (s : State) : (setReg r v s).c = if r = .c then v else s.c := by cases r <;> rfl
@[simp] theorem setReg_d (r : Reg8) (v : Byte) (s : State) : (setReg r v s).d = if r = .d then v else s.d := by cases r <;> rfl
@[simp] theorem setReg_e (r : Reg8) (v : Byte) (s : State) : (setReg r v s).e = if r = .e then v else s.e := by cases r <;> rfl
@[simp] theorem setReg_h (r : Reg8) (v : Byte) (s : State) : (setReg r v s).h = if r = .h then v else s.h := by cases r <;> rfl
@[simp] theorem setReg_l (r : Reg8) (v : Byte) (s : State) : (setReg r v s).l = if r = .l then v else s.l := by cases r <;> rfl
@[simp] theorem setReg_sp (r : Reg8) (v : Byte) (s : State) : (setReg r v s).sp = s.sp := by cases r <;> rfl
@[simp] theorem setReg_pc (r : Reg8) (v : Byte) (s : State) : (setReg r v s).pc = s.pc := by cases r <;> rfl
@[simp] theorem setReg_flags (r : Reg8) (v : Byte) (s : State) : (setReg r v s).flags = s.flags := by cases r <;> rfl
@[simp] theorem setReg_inte (r : Reg8) (v : Byte) (s : State) : (setReg r v s).inte = s.inte := by cases r <;> rfl
@[simp] theorem setReg_run (r : Reg8) (v : Byte) (s : State) : (setReg r v s).run = s.run := by cases r <;> rfl
@[simp] theorem setReg_faultOpcode (r : Reg8) (v : Byte) (s : State) : (setReg r v s).faultOpcode = s.faultOpcode := by cases r <;> rfl
@[simp] theorem setReg_faultPc (r : Reg8) (v : Byte) (s : State) : (setReg r v s).faultPc = s.faultPc := by cases r <;> rfl
@[simp] theorem setReg_mem (r : Reg8) (v : Byte) (s : State) : (setReg r v s).mem = s.mem := by cases r <;> rfl

theorem getReg_setReg (r q : Reg8) (v : Byte) (s : State) :
    getReg q (setReg r v s) = if r = q then v else getReg q s := by cases r <;> cases q <;> rfl

@[simp] theorem getReg_setReg_same (r : Reg8) (v : Byte) (s : State) : getReg r (setReg r v s) = v := by cases r <;> rfl


/-! ### `setPair` -/

@[simp] theorem setPair_a (p : Pair) (v : Word) (s : State) : (setPair p v s).a = s.a := by cases p <;> rfl
@[simp] theorem setPair_bc_b (v : Word) (s : State) : (setPair .bc v s).b = highByte v := rfl
@[simp] theorem setPair_de_b (v : Word) (s : State) : (setPair .de v s).b = s.b := rfl
@[simp] theorem setPair_hl_b (v : Word) (s : State) : (setPair .hl v s).b = s.b := rfl
@[simp] theorem setPair_bc_c (v : Word) (s : State) : (setPair .bc v s).c = lowByte v := rfl
@[simp] theorem setPair_de_c (v : Word) (s : State) : (setPair .de v s).c = s.c := rfl
@[simp] theorem setPair_hl_c (v : Word) (s : State) : (setPair .hl v s).c = s.c := rfl
@[simp] theorem setPair_bc_d (v : Word) (s : State) : (setPair .bc v s).d = s.d := rfl
@[simp] theorem setPair_de_d (v : Word) (s : State) : (setPair .de v s).d = highByte v := rfl
@[simp] theorem setPair_hl_d (v : Word) (s : State) : (setPair .hl v s).d = s.d := rfl
@[simp] theorem setPair_bc_e (v : Word) (s : State) : (setPair .bc v s).e = s.e := rfl
@[simp] theorem setPair_de_e (v : Word) (s : State) : (setPair .de v s).e = lowByte v := rfl
@[simp] theorem setPair_hl_e (v : Word) (s : State) : (setPair .hl v s).e = s.e := rfl
@[simp] theorem setPair_bc_h (v : Word) (s : State) : (setPair .bc v s).h = s.h := rfl
@[simp] theorem setPair_de_h (v : Word) (s : State) : (setPair .de v s).h = s.h := rfl
@[simp] theorem setPair_hl_h (v : Word) (s : State) : (setPair .hl v s).h = highByte v := rfl
@[simp] theorem setPair_bc_l (v : Word) (s : State) : (setPair .bc v s).l = s.l := rfl
@[simp] theorem setPair_de_l (v : Word) (s : State) : (setPair .de v s).l = s.l := rfl
@[simp] theorem setPair_hl_l (v : Word) (s : State) : (setPair .hl v s).l = lowByte v := rfl
@[simp] theorem setPair_sp (p : Pair) (v : Word) (s : State) : (setPair p v s).sp = s.sp := by cases p <;> rfl
@[simp] theorem setPair_pc (p : Pair) (v : Word) (s : State) : (setPair p v s).pc = s.pc := by cases p <;> rfl
@[simp] theorem setPair_flags (p : Pair) (v : Word) (s : State) : (setPair p v s).flags = s.flags := by cases p <;> rfl
@[simp] theorem setPair_inte (p : Pair) (v : Word) (s : State) : (setPair p v s).inte = s.inte := by cases p <;> rfl
@[simp] theorem setPair_run (p : Pair) (v : Word) (s : State) : (setPair p v s).run = s.run := by cases p <;> rfl
@[simp] theorem setPair_faultOpcode (p : Pair) (v : Word) (s : State) : (setPair p v s).faultOpcode = s.faultOpcode := by cases p <;> rfl
@[simp] theorem setPair_faultPc (p : Pair) (v : Word) (s : State) : (setPair p v s).faultPc = s.faultPc := by cases p <;> rfl
@[simp] theorem setPair_mem (p : Pair) (v : Word) (s : State) : (setPair p v s).mem = s.mem := by cases p <;> rfl

/-! ### `setRp16` -/

@[simp] theorem setRp16_a (p : Rp16) (v : Word) (s : State) : (setRp16 p v s).a = s.a := by cases p <;> rfl
@[simp] theorem setRp16_bc_b (v : Word) (s : State) : (setRp16 .bc v s).b = highByte v := rfl
@[simp] theorem setRp16_de_b (v : Word) (s : State) : (setRp16 .de v s).b = s.b := rfl
@[simp] theorem setRp16_hl_b (v : Word) (s : State) : (setRp16 .hl v s).b = s.b := rfl
@[simp] theorem setRp16_sp_b (v : Word) (s : State) : (setRp16 .sp v s).b = s.b := rfl
@[simp] theorem setRp16_bc_c (v : Word) (s : State) : (setRp16 .bc v s).c = lowByte v := rfl
@[simp] theorem setRp16_de_c (v : Word) (s : State) : (setRp16 .de v s).c = s.c := rfl
@[simp] theorem setRp16_hl_c (v : Word) (s : State) : (setRp16 .hl v s).c = s.c := rfl
@[simp] theorem setRp16_sp_c (v : Word) (s : State) : (setRp16 .sp v s).c = s.c := rfl
@[simp] theorem setRp16_bc_d (v : Word) (s : State) : (setRp16 .bc v s).d = s.d := rfl
@[simp] theorem setRp16_de_d (v : Word) (s : State) : (setRp16 .de v s).d = highByte v := rfl
@[simp] theorem setRp16_hl_d (v : Word) (s : State) : (setRp16 .hl v s).d = s.d := rfl
@[simp] theorem setRp16_sp_d (v : Word) (s : State) : (setRp16 .sp v s).d = s.d := rfl
@[simp] theorem setRp16_bc_e (v : Word) (s : State) : (setRp16 .bc v s).e = s.e := rfl
@[simp] theorem setRp16_de_e (v : Word) (s : State) : (setRp16 .de v s).e = lowByte v := rfl
@[simp] theorem setRp16_hl_e (v : Word) (s : State) : (setRp16 .hl v s).e = s.e := rfl
@[simp] theorem setRp16_sp_e (v : Word) (s : State) : (setRp16 .sp v s).e = s.e := rfl
@[simp] theorem setRp16_bc_h (v : Word) (s : State) : (setRp16 .bc v s).h = s.h := rfl
@[simp] theorem setRp16_de_h (v : Word) (s : State) : (setRp16 .de v s).h = s.h := rfl
@[simp] theorem setRp16_hl_h (v : Word) (s : State) : (setRp16 .hl v s).h = highByte v := rfl
@[simp] theorem setRp16_sp_h (v : Word) (s : State) : (setRp16 .sp v s).h = s.h := rfl
@[simp] theorem setRp16_bc_l (v : Word) (s : State) : (setRp16 .bc v s).l = s.l := rfl
@[simp] theorem setRp16_de_l (v : Word) (s : State) : (setRp16 .de v s).l = s.l := rfl
@[simp] theorem setRp16_hl_l (v : Word) (s : State) : (setRp16 .hl v s).l = lowByte v := rfl
@[simp] theorem setRp16_sp_l (v : Word) (s : State) : (setRp16 .sp v s).l = s.l := rfl
@[simp] theorem setRp16_bc_sp (v : Word) (s : State) : (setRp16 .bc v s).sp = s.sp := rfl
@[simp] theorem setRp16_de_sp (v : Word) (s : State) : (setRp16 .de v s).sp = s.sp := rfl
@[simp] theorem setRp16_hl_sp (v : Word) (s : State) : (setRp16 .hl v s).sp = s.sp := rfl
@[simp] theorem setRp16_sp_sp (v : Word) (s : State) : (setRp16 .sp v s).sp = v := rfl
@[simp] theorem setRp16_pc (p : Rp16) (v : Word) (s : State) : (setRp16 p v s).pc = s.pc := by cases p <;> rfl
@[simp] theorem setRp16_flags (p : Rp16) (v : Word) (s : State) : (setRp16 p v s).flags = s.flags := by cases p <;> rfl
@[simp] theorem setRp16_inte (p : Rp16) (v : Word) (s : State) : (setRp16 p v s).inte = s.inte := by cases p <;> rfl
@[simp] theorem setRp16_run (p : Rp16) (v : Word) (s : State) : (setRp16 p v s).run = s.run := by cases p <;> rfl
@[simp] theorem setRp16_faultOpcode (p : Rp16) (v : Word) (s : State) : (setRp16 p v s).faultOpcode = s.faultOpcode := by cases p <;> rfl
@[simp] theorem setRp16_faultPc (p : Rp16) (v : Word) (s : State) : (setRp16 p v s).faultPc = s.faultPc := by cases p <;> rfl
@[simp] theorem setRp16_mem (p : Rp16) (v : Word) (s : State) : (setRp16 p v s).mem = s.mem := by cases p <;> rfl

/-! ### `setStackPair` -/

@[simp] theorem setStackPair_bc_a (high low : Byte) (s : State) : (setStackPair .bc high low s).a = s.a := rfl
@[simp] theorem setStackPair_de_a (high low : Byte) (s : State) : (setStackPair .de high low s).a = s.a := rfl
@[simp] theorem setStackPair_hl_a (high low : Byte) (s : State) : (setStackPair .hl high low s).a = s.a := rfl
@[simp] theorem setStackPair_psw_a (high low : Byte) (s : State) : (setStackPair .psw high low s).a = high := rfl
@[simp] theorem setStackPair_bc_b (high low : Byte) (s : State) : (setStackPair .bc high low s).b = high := rfl
@[simp] theorem setStackPair_de_b (high low : Byte) (s : State) : (setStackPair .de high low s).b = s.b := rfl
@[simp] theorem setStackPair_hl_b (high low : Byte) (s : State) : (setStackPair .hl high low s).b = s.b := rfl
@[simp] theorem setStackPair_psw_b (high low : Byte) (s : State) : (setStackPair .psw high low s).b = s.b := rfl
@[simp] theorem setStackPair_bc_c (high low : Byte) (s : State) : (setStackPair .bc high low s).c = low := rfl
@[simp] theorem setStackPair_de_c (high low : Byte) (s : State) : (setStackPair .de high low s).c = s.c := rfl
@[simp] theorem setStackPair_hl_c (high low : Byte) (s : State) : (setStackPair .hl high low s).c = s.c := rfl
@[simp] theorem setStackPair_psw_c (high low : Byte) (s : State) : (setStackPair .psw high low s).c = s.c := rfl
@[simp] theorem setStackPair_bc_d (high low : Byte) (s : State) : (setStackPair .bc high low s).d = s.d := rfl
@[simp] theorem setStackPair_de_d (high low : Byte) (s : State) : (setStackPair .de high low s).d = high := rfl
@[simp] theorem setStackPair_hl_d (high low : Byte) (s : State) : (setStackPair .hl high low s).d = s.d := rfl
@[simp] theorem setStackPair_psw_d (high low : Byte) (s : State) : (setStackPair .psw high low s).d = s.d := rfl
@[simp] theorem setStackPair_bc_e (high low : Byte) (s : State) : (setStackPair .bc high low s).e = s.e := rfl
@[simp] theorem setStackPair_de_e (high low : Byte) (s : State) : (setStackPair .de high low s).e = low := rfl
@[simp] theorem setStackPair_hl_e (high low : Byte) (s : State) : (setStackPair .hl high low s).e = s.e := rfl
@[simp] theorem setStackPair_psw_e (high low : Byte) (s : State) : (setStackPair .psw high low s).e = s.e := rfl
@[simp] theorem setStackPair_bc_h (high low : Byte) (s : State) : (setStackPair .bc high low s).h = s.h := rfl
@[simp] theorem setStackPair_de_h (high low : Byte) (s : State) : (setStackPair .de high low s).h = s.h := rfl
@[simp] theorem setStackPair_hl_h (high low : Byte) (s : State) : (setStackPair .hl high low s).h = high := rfl
@[simp] theorem setStackPair_psw_h (high low : Byte) (s : State) : (setStackPair .psw high low s).h = s.h := rfl
@[simp] theorem setStackPair_bc_l (high low : Byte) (s : State) : (setStackPair .bc high low s).l = s.l := rfl
@[simp] theorem setStackPair_de_l (high low : Byte) (s : State) : (setStackPair .de high low s).l = s.l := rfl
@[simp] theorem setStackPair_hl_l (high low : Byte) (s : State) : (setStackPair .hl high low s).l = low := rfl
@[simp] theorem setStackPair_psw_l (high low : Byte) (s : State) : (setStackPair .psw high low s).l = s.l := rfl
@[simp] theorem setStackPair_sp (p : StackPair) (high low : Byte) (s : State) : (setStackPair p high low s).sp = s.sp := by cases p <;> rfl
@[simp] theorem setStackPair_pc (p : StackPair) (high low : Byte) (s : State) : (setStackPair p high low s).pc = s.pc := by cases p <;> rfl
@[simp] theorem setStackPair_bc_flags (high low : Byte) (s : State) : (setStackPair .bc high low s).flags = s.flags := rfl
@[simp] theorem setStackPair_de_flags (high low : Byte) (s : State) : (setStackPair .de high low s).flags = s.flags := rfl
@[simp] theorem setStackPair_hl_flags (high low : Byte) (s : State) : (setStackPair .hl high low s).flags = s.flags := rfl
@[simp] theorem setStackPair_psw_flags (high low : Byte) (s : State) : (setStackPair .psw high low s).flags = unpackFlags low := rfl
@[simp] theorem setStackPair_inte (p : StackPair) (high low : Byte) (s : State) : (setStackPair p high low s).inte = s.inte := by cases p <;> rfl
@[simp] theorem setStackPair_run (p : StackPair) (high low : Byte) (s : State) : (setStackPair p high low s).run = s.run := by cases p <;> rfl
@[simp] theorem setStackPair_faultOpcode (p : StackPair) (high low : Byte) (s : State) : (setStackPair p high low s).faultOpcode = s.faultOpcode := by cases p <;> rfl
@[simp] theorem setStackPair_faultPc (p : StackPair) (high low : Byte) (s : State) : (setStackPair p high low s).faultPc = s.faultPc := by cases p <;> rfl
@[simp] theorem setStackPair_mem (p : StackPair) (high low : Byte) (s : State) : (setStackPair p high low s).mem = s.mem := by cases p <;> rfl

/-! ### `memWrite` -/

@[simp] theorem memWrite_a (addr : Word) (v : Byte) (s : State) : (memWrite addr v s).a = s.a := rfl
@[simp] theorem memWrite_b (addr : Word) (v : Byte) (s : State) : (memWrite addr v s).b = s.b := rfl
@[simp] theorem memWrite_c (addr : Word) (v : Byte) (s : State) : (memWrite addr v s).c = s.c := rfl
@[simp] theorem memWrite_d (addr : Word) (v : Byte) (s : State) : (memWrite addr v s).d = s.d := rfl
@[simp] theorem memWrite_e (addr : Word) (v : Byte) (s : State) : (memWrite addr v s).e = s.e := rfl
@[simp] theorem memWrite_h (addr : Word) (v : Byte) (s : State) : (memWrite addr v s).h = s.h := rfl
@[simp] theorem memWrite_l (addr : Word) (v : Byte) (s : State) : (memWrite addr v s).l = s.l := rfl
@[simp] theorem memWrite_sp (addr : Word) (v : Byte) (s : State) : (memWrite addr v s).sp = s.sp := rfl
@[simp] theorem memWrite_pc (addr : Word) (v : Byte) (s : State) : (memWrite addr v s).pc = s.pc := rfl
@[simp] theorem memWrite_flags (addr : Word) (v : Byte) (s : State) : (memWrite addr v s).flags = s.flags := rfl
@[simp] theorem memWrite_inte (addr : Word) (v : Byte) (s : State) : (memWrite addr v s).inte = s.inte := rfl
@[simp] theorem memWrite_run (addr : Word) (v : Byte) (s : State) : (memWrite addr v s).run = s.run := rfl
@[simp] theorem memWrite_faultOpcode (addr : Word) (v : Byte) (s : State) : (memWrite addr v s).faultOpcode = s.faultOpcode := rfl
@[simp] theorem memWrite_faultPc (addr : Word) (v : Byte) (s : State) : (memWrite addr v s).faultPc = s.faultPc := rfl
@[simp] theorem memWrite_mem (addr : Word) (v : Byte) (s : State) : (memWrite addr v s).mem = Memory.write s.mem addr.toNat v := rfl

/-! ### `pushWord` -/

@[simp] theorem pushWord_a (high low : Byte) (s : State) : (pushWord high low s).a = s.a := rfl
@[simp] theorem pushWord_b (high low : Byte) (s : State) : (pushWord high low s).b = s.b := rfl
@[simp] theorem pushWord_c (high low : Byte) (s : State) : (pushWord high low s).c = s.c := rfl
@[simp] theorem pushWord_d (high low : Byte) (s : State) : (pushWord high low s).d = s.d := rfl
@[simp] theorem pushWord_e (high low : Byte) (s : State) : (pushWord high low s).e = s.e := rfl
@[simp] theorem pushWord_h (high low : Byte) (s : State) : (pushWord high low s).h = s.h := rfl
@[simp] theorem pushWord_l (high low : Byte) (s : State) : (pushWord high low s).l = s.l := rfl
@[simp] theorem pushWord_sp (high low : Byte) (s : State) : (pushWord high low s).sp = s.sp - 2 := rfl
@[simp] theorem pushWord_pc (high low : Byte) (s : State) : (pushWord high low s).pc = s.pc := rfl
@[simp] theorem pushWord_flags (high low : Byte) (s : State) : (pushWord high low s).flags = s.flags := rfl
@[simp] theorem pushWord_inte (high low : Byte) (s : State) : (pushWord high low s).inte = s.inte := rfl
@[simp] theorem pushWord_run (high low : Byte) (s : State) : (pushWord high low s).run = s.run := rfl
@[simp] theorem pushWord_faultOpcode (high low : Byte) (s : State) : (pushWord high low s).faultOpcode = s.faultOpcode := rfl
@[simp] theorem pushWord_faultPc (high low : Byte) (s : State) : (pushWord high low s).faultPc = s.faultPc := rfl
@[simp] theorem pushWord_mem (high low : Byte) (s : State) : (pushWord high low s).mem = Memory.write (Memory.write s.mem (s.sp - 2).toNat low) (s.sp - 2 + 1).toNat high := rfl

/-! ### `memWrite2` -/

@[simp] theorem memWrite2_a (addr v : Word) (s : State) : (memWrite2 addr v s).a = s.a := rfl
@[simp] theorem memWrite2_b (addr v : Word) (s : State) : (memWrite2 addr v s).b = s.b := rfl
@[simp] theorem memWrite2_c (addr v : Word) (s : State) : (memWrite2 addr v s).c = s.c := rfl
@[simp] theorem memWrite2_d (addr v : Word) (s : State) : (memWrite2 addr v s).d = s.d := rfl
@[simp] theorem memWrite2_e (addr v : Word) (s : State) : (memWrite2 addr v s).e = s.e := rfl
@[simp] theorem memWrite2_h (addr v : Word) (s : State) : (memWrite2 addr v s).h = s.h := rfl
@[simp] theorem memWrite2_l (addr v : Word) (s : State) : (memWrite2 addr v s).l = s.l := rfl
@[simp] theorem memWrite2_sp (addr v : Word) (s : State) : (memWrite2 addr v s).sp = s.sp := rfl
@[simp] theorem memWrite2_pc (addr v : Word) (s : State) : (memWrite2 addr v s).pc = s.pc := rfl
@[simp] theorem memWrite2_flags (addr v : Word) (s : State) : (memWrite2 addr v s).flags = s.flags := rfl
@[simp] theorem memWrite2_inte (addr v : Word) (s : State) : (memWrite2 addr v s).inte = s.inte := rfl
@[simp] theorem memWrite2_run (addr v : Word) (s : State) : (memWrite2 addr v s).run = s.run := rfl
@[simp] theorem memWrite2_faultOpcode (addr v : Word) (s : State) : (memWrite2 addr v s).faultOpcode = s.faultOpcode := rfl
@[simp] theorem memWrite2_faultPc (addr v : Word) (s : State) : (memWrite2 addr v s).faultPc = s.faultPc := rfl
@[simp] theorem memWrite2_mem (addr v : Word) (s : State) : (memWrite2 addr v s).mem = Memory.write (Memory.write s.mem addr.toNat (lowByte v)) (addr + 1).toNat (highByte v) := rfl

/-! ### `popWord` -/

@[simp] theorem popWord_a (s : State) : (popWord s).a = s.a := rfl
@[simp] theorem popWord_b (s : State) : (popWord s).b = s.b := rfl
@[simp] theorem popWord_c (s : State) : (popWord s).c = s.c := rfl
@[simp] theorem popWord_d (s : State) : (popWord s).d = s.d := rfl
@[simp] theorem popWord_e (s : State) : (popWord s).e = s.e := rfl
@[simp] theorem popWord_h (s : State) : (popWord s).h = s.h := rfl
@[simp] theorem popWord_l (s : State) : (popWord s).l = s.l := rfl
@[simp] theorem popWord_sp (s : State) : (popWord s).sp = s.sp + 2 := rfl
@[simp] theorem popWord_pc (s : State) : (popWord s).pc = s.pc := rfl
@[simp] theorem popWord_flags (s : State) : (popWord s).flags = s.flags := rfl
@[simp] theorem popWord_inte (s : State) : (popWord s).inte = s.inte := rfl
@[simp] theorem popWord_run (s : State) : (popWord s).run = s.run := rfl
@[simp] theorem popWord_faultOpcode (s : State) : (popWord s).faultOpcode = s.faultOpcode := rfl
@[simp] theorem popWord_faultPc (s : State) : (popWord s).faultPc = s.faultPc := rfl
@[simp] theorem popWord_mem (s : State) : (popWord s).mem = s.mem := rfl

/-! ### `setPc` -/

@[simp] theorem setPc_a (target : Word) (s : State) : (setPc target s).a = s.a := rfl
@[simp] theorem setPc_b (target : Word) (s : State) : (setPc target s).b = s.b := rfl
@[simp] theorem setPc_c (target : Word) (s : State) : (setPc target s).c = s.c := rfl
@[simp] theorem setPc_d (target : Word) (s : State) : (setPc target s).d = s.d := rfl
@[simp] theorem setPc_e (target : Word) (s : State) : (setPc target s).e = s.e := rfl
@[simp] theorem setPc_h (target : Word) (s : State) : (setPc target s).h = s.h := rfl
@[simp] theorem setPc_l (target : Word) (s : State) : (setPc target s).l = s.l := rfl
@[simp] theorem setPc_sp (target : Word) (s : State) : (setPc target s).sp = s.sp := rfl
@[simp] theorem setPc_pc (target : Word) (s : State) : (setPc target s).pc = target := rfl
@[simp] theorem setPc_flags (target : Word) (s : State) : (setPc target s).flags = s.flags := rfl
@[simp] theorem setPc_inte (target : Word) (s : State) : (setPc target s).inte = s.inte := rfl
@[simp] theorem setPc_run (target : Word) (s : State) : (setPc target s).run = s.run := rfl
@[simp] theorem setPc_faultOpcode (target : Word) (s : State) : (setPc target s).faultOpcode = s.faultOpcode := rfl
@[simp] theorem setPc_faultPc (target : Word) (s : State) : (setPc target s).faultPc = s.faultPc := rfl
@[simp] theorem setPc_mem (target : Word) (s : State) : (setPc target s).mem = s.mem := rfl

/-! ### `advance` -/

@[simp] theorem advance_a (n : Word) (s : State) : (advance n s).a = s.a := rfl
@[simp] theorem advance_b (n : Word) (s : State) : (advance n s).b = s.b := rfl
@[simp] theorem advance_c (n : Word) (s : State) : (advance n s).c = s.c := rfl
@[simp] theorem advance_d (n : Word) (s : State) : (advance n s).d = s.d := rfl
@[simp] theorem advance_e (n : Word) (s : State) : (advance n s).e = s.e := rfl
@[simp] theorem advance_h (n : Word) (s : State) : (advance n s).h = s.h := rfl
@[simp] theorem advance_l (n : Word) (s : State) : (advance n s).l = s.l := rfl
@[simp] theorem advance_sp (n : Word) (s : State) : (advance n s).sp = s.sp := rfl
@[simp] theorem advance_pc (n : Word) (s : State) : (advance n s).pc = s.pc + n := rfl
@[simp] theorem advance_flags (n : Word) (s : State) : (advance n s).flags = s.flags := rfl
@[simp] theorem advance_inte (n : Word) (s : State) : (advance n s).inte = s.inte := rfl
@[simp] theorem advance_run (n : Word) (s : State) : (advance n s).run = s.run := rfl
@[simp] theorem advance_faultOpcode (n : Word) (s : State) : (advance n s).faultOpcode = s.faultOpcode := rfl
@[simp] theorem advance_faultPc (n : Word) (s : State) : (advance n s).faultPc = s.faultPc := rfl
@[simp] theorem advance_mem (n : Word) (s : State) : (advance n s).mem = s.mem := rfl

/-! ### `raiseUnimplemented` -/

@[simp] theorem raiseUnimplemented_a (opcode : Byte) (s : State) : (raiseUnimplemented opcode s).a = s.a := rfl
@[simp] theorem raiseUnimplemented_b (opcode : Byte) (s : State) : (raiseUnimplemented opcode s).b = s.b := rfl
@[simp] theorem raiseUnimplemented_c (opcode : Byte) (s : State) : (raiseUnimplemented opcode s).c = s.c := rfl
@[simp] theorem raiseUnimplemented_d (opcode : Byte) (s : State) : (raiseUnimplemented opcode s).d = s.d := rfl
@[simp] theorem raiseUnimplemented_e (opcode : Byte) (s : State) : (raiseUnimplemented opcode s).e = s.e := rfl
@[simp] theorem raiseUnimplemented_h (opcode : Byte) (s : State) : (raiseUnimplemented opcode s).h = s.h := rfl
@[simp] theorem raiseUnimplemented_l (opcode : Byte) (s : State) : (raiseUnimplemented opcode s).l = s.l := rfl
@[simp] theorem raiseUnimplemented_sp (opcode : Byte) (s : State) : (raiseUnimplemented opcode s).sp = s.sp := rfl
@[simp] theorem raiseUnimplemented_pc (opcode : Byte) (s : State) : (raiseUnimplemented opcode s).pc = s.pc := rfl
@[simp] theorem raiseUnimplemented_flags (opcode : Byte) (s : State) : (raiseUnimplemented opcode s).flags = s.flags := rfl
@[simp] theorem raiseUnimplemented_inte (opcode : Byte) (s : State) : (raiseUnimplemented opcode s).inte = s.inte := rfl
@[simp] theorem raiseUnimplemented_run (opcode : Byte) (s : State) : (raiseUnimplemented opcode s).run = .faulted := rfl
@[simp] theorem raiseUnimplemented_faultOpcode (opcode : Byte) (s : State) : (raiseUnimplemented opcode s).faultOpcode = opcode := rfl
@[simp] theorem raiseUnimplemented_faultPc (opcode : Byte) (s : State) : (raiseUnimplemented opcode s).faultPc = s.pc := rfl
@[simp] theorem raiseUnimplemented_mem (opcode : Byte) (s : State) : (raiseUnimplemented opcode s).mem = s.mem := rfl

/-! ### `halt` -/

@[simp] theorem halt_a (s : State) : (halt s).a = s.a := rfl
@[simp] theorem halt_b (s : State) : (halt s).b = s.b := rfl
@[simp] theorem halt_c (s : State) : (halt s).c = s.c := rfl
@[simp] theorem halt_d (s : State) : (halt s).d = s.d := rfl
@[simp] theorem halt_e (s : State) : (halt s).e = s.e := rfl
@[simp] theorem halt_h (s : State) : (halt s).h = s.h := rfl
@[simp] theorem halt_l (s : State) : (halt s).l = s.l := rfl
@[simp] theorem halt_sp (s : State) : (halt s).sp = s.sp := rfl
@[simp] theorem halt_pc (s : State) : (halt s).pc = s.pc := rfl
@[simp] theorem halt_flags (s : State) : (halt s).flags = s.flags := rfl
@[simp] theorem halt_inte (s : State) : (halt s).inte = s.inte := rfl
@[simp] theorem halt_run (s : State) : (halt s).run = .halted := rfl
@[simp] theorem halt_faultOpcode (s : State) : (halt s).faultOpcode = s.faultOpcode := rfl
@[simp] theorem halt_faultPc (s : State) : (halt s).faultPc = s.faultPc := rfl
@[simp] theorem halt_mem (s : State) : (halt s).mem = s.mem := rfl

/-! ### `setAc` -/

@[simp] theorem setAc_a (v : Bool) (s : State) : (setAc v s).a = s.a := rfl
@[simp] theorem setAc_b (v : Bool) (s : State) : (setAc v s).b = s.b := rfl
@[simp] theorem setAc_c (v : Bool) (s : State) : (setAc v s).c = s.c := rfl
@[simp] theorem setAc_d (v : Bool) (s : State) : (setAc v s).d = s.d := rfl
@[simp] theorem setAc_e (v : Bool) (s : State) : (setAc v s).e = s.e := rfl
@[simp] theorem setAc_h (v : Bool) (s : State) : (setAc v s).h = s.h := rfl
@[simp] theorem setAc_l (v : Bool) (s : State) : (setAc v s).l = s.l := rfl
@[simp] theorem setAc_sp (v : Bool) (s : State) : (setAc v s).sp = s.sp := rfl
@[simp] theorem setAc_pc (v : Bool) (s : State) : (setAc v s).pc = s.pc := rfl
@[simp] theorem setAc_flags (v : Bool) (s : State) : (setAc v s).flags = { s.flags with ac := v } := rfl
@[simp] theorem setAc_inte (v : Bool) (s : State) : (setAc v s).inte = s.inte := rfl
@[simp] theorem setAc_run (v : Bool) (s : State) : (setAc v s).run = s.run := rfl
@[simp] theorem setAc_faultOpcode (v : Bool) (s : State) : (setAc v s).faultOpcode = s.faultOpcode := rfl
@[simp] theorem setAc_faultPc (v : Bool) (s : State) : (setAc v s).faultPc = s.faultPc := rfl
@[simp] theorem setAc_mem (v : Bool) (s : State) : (setAc v s).mem = s.mem := rfl

/-! ### `setCy` -/

@[simp] theorem setCy_a (v : Bool) (s : State) : (setCy v s).a = s.a := rfl
@[simp] theorem setCy_b (v : Bool) (s : State) : (setCy v s).b = s.b := rfl
@[simp] theorem setCy_c (v : Bool) (s : State) : (setCy v s).c = s.c := rfl
@[simp] theorem setCy_d (v : Bool) (s : State) : (setCy v s).d = s.d := rfl
@[simp] theorem setCy_e (v : Bool) (s : State) : (setCy v s).e = s.e := rfl
@[simp] theorem setCy_h (v : Bool) (s : State) : (setCy v s).h = s.h := rfl
@[simp] theorem setCy_l (v : Bool) (s : State) : (setCy v s).l = s.l := rfl
@[simp] theorem setCy_sp (v : Bool) (s : State) : (setCy v s).sp = s.sp := rfl
@[simp] theorem setCy_pc (v : Bool) (s : State) : (setCy v s).pc = s.pc := rfl
@[simp] theorem setCy_flags (v : Bool) (s : State) : (setCy v s).flags = { s.flags with cy := v } := rfl
@[simp] theorem setCy_inte (v : Bool) (s : State) : (setCy v s).inte = s.inte := rfl
@[simp] theorem setCy_run (v : Bool) (s : State) : (setCy v s).run = s.run := rfl
@[simp] theorem setCy_faultOpcode (v : Bool) (s : State) : (setCy v s).faultOpcode = s.faultOpcode := rfl
@[simp] theorem setCy_faultPc (v : Bool) (s : State) : (setCy v s).faultPc = s.faultPc := rfl
@[simp] theorem setCy_mem (v : Bool) (s : State) : (setCy v s).mem = s.mem := rfl

/-! ### `compareFlags` -/

@[simp] theorem compareFlags_a (raw : Word) (s : State) : (compareFlags raw s).a = s.a := rfl
@[simp] theorem compareFlags_b (raw : Word) (s : State) : (compareFlags raw s).b = s.b := rfl
@[simp] theorem compareFlags_c (raw : Word) (s : State) : (compareFlags raw s).c = s.c := rfl
@[simp] theorem compareFlags_d (raw : Word) (s : State) : (compareFlags raw s).d = s.d := rfl
@[simp] theorem compareFlags_e (raw : Word) (s : State) : (compareFlags raw s).e = s.e := rfl
@[simp] theorem compareFlags_h (raw : Word) (s : State) : (compareFlags raw s).h = s.h := rfl
@[simp] theorem compareFlags_l (raw : Word) (s : State) : (compareFlags raw s).l = s.l := rfl
@[simp] theorem compareFlags_sp (raw : Word) (s : State) : (compareFlags raw s).sp = s.sp := rfl
@[simp] theorem compareFlags_pc (raw : Word) (s : State) : (compareFlags raw s).pc = s.pc := rfl
@[simp] theorem compareFlags_flags_z (raw : Word) (s : State) : (compareFlags raw s).flags.z = zeroOf (lowByte raw) := rfl
@[simp] theorem compareFlags_flags_s (raw : Word) (s : State) : (compareFlags raw s).flags.s = signOf (lowByte raw) := rfl
@[simp] theorem compareFlags_flags_p (raw : Word) (s : State) : (compareFlags raw s).flags.p = parityEven (lowByte raw) := rfl
@[simp] theorem compareFlags_flags_cy (raw : Word) (s : State) : (compareFlags raw s).flags.cy = decide (highByte raw ≠ 0x00) := rfl
@[simp] theorem compareFlags_flags_ac (raw : Word) (s : State) : (compareFlags raw s).flags.ac = s.flags.ac := rfl
@[simp] theorem compareFlags_inte (raw : Word) (s : State) : (compareFlags raw s).inte = s.inte := rfl
@[simp] theorem compareFlags_run (raw : Word) (s : State) : (compareFlags raw s).run = s.run := rfl
@[simp] theorem compareFlags_faultOpcode (raw : Word) (s : State) : (compareFlags raw s).faultOpcode = s.faultOpcode := rfl
@[simp] theorem compareFlags_faultPc (raw : Word) (s : State) : (compareFlags raw s).faultPc = s.faultPc := rfl
@[simp] theorem compareFlags_mem (raw : Word) (s : State) : (compareFlags raw s).mem = s.mem := rfl

/-! ### `applyLogicFlags` -/

@[simp] theorem applyLogicFlags_a (res : Byte) (s : State) : (applyLogicFlags res s).a = s.a := rfl
@[simp] theorem applyLogicFlags_b (res : Byte) (s : State) : (applyLogicFlags res s).b = s.b := rfl
@[simp] theorem applyLogicFlags_c (res : Byte) (s : State) : (applyLogicFlags res s).c = s.c := rfl
@[simp] theorem applyLogicFlags_d (res : Byte) (s : State) : (applyLogicFlags res s).d = s.d := rfl
@[simp] theorem applyLogicFlags_e (res : Byte) (s : State) : (applyLogicFlags res s).e = s.e := rfl
@[simp] theorem applyLogicFlags_h (res : Byte) (s : State) : (applyLogicFlags res s).h = s.h := rfl
@[simp] theorem applyLogicFlags_l (res : Byte) (s : State) : (applyLogicFlags res s).l = s.l := rfl
@[simp] theorem applyLogicFlags_sp (res : Byte) (s : State) : (applyLogicFlags res s).sp = s.sp := rfl
@[simp] theorem applyLogicFlags_pc (res : Byte) (s : State) : (applyLogicFlags res s).pc = s.pc := rfl
@[simp] theorem applyLogicFlags_flags_z (res : Byte) (s : State) : (applyLogicFlags res s).flags.z = zeroOf res := rfl
@[simp] theorem applyLogicFlags_flags_s (res : Byte) (s : State) : (applyLogicFlags res s).flags.s = signOf res := rfl
@[simp] theorem applyLogicFlags_flags_p (res : Byte) (s : State) : (applyLogicFlags res s).flags.p = parityEven res := rfl
@[simp] theorem applyLogicFlags_flags_cy (res : Byte) (s : State) : (applyLogicFlags res s).flags.cy = false := rfl
@[simp] theorem applyLogicFlags_flags_ac (res : Byte) (s : State) : (applyLogicFlags res s).flags.ac = s.flags.ac := rfl
@[simp] theorem applyLogicFlags_inte (res : Byte) (s : State) : (applyLogicFlags res s).inte = s.inte := rfl
@[simp] theorem applyLogicFlags_run (res : Byte) (s : State) : (applyLogicFlags res s).run = s.run := rfl
@[simp] theorem applyLogicFlags_faultOpcode (res : Byte) (s : State) : (applyLogicFlags res s).faultOpcode = s.faultOpcode := rfl
@[simp] theorem applyLogicFlags_faultPc (res : Byte) (s : State) : (applyLogicFlags res s).faultPc = s.faultPc := rfl
@[simp] theorem applyLogicFlags_mem (res : Byte) (s : State) : (applyLogicFlags res s).mem = s.mem := rfl

/-! ### `applyIncDecFlags` -/

@[simp] theorem applyIncDecFlags_a (res : Byte) (s : State) : (applyIncDecFlags res s).a = s.a := rfl
@[simp] theorem applyIncDecFlags_b (res : Byte) (s : State) : (applyIncDecFlags res s).b = s.b := rfl
@[simp] theorem applyIncDecFlags_c (res : Byte) (s : State) : (applyIncDecFlags res s).c = s.c := rfl
@[simp] theorem applyIncDecFlags_d (res : Byte) (s : State) : (applyIncDecFlags res s).d = s.d := rfl
@[simp] theorem applyIncDecFlags_e (res : Byte) (s : State) : (applyIncDecFlags res s).e = s.e := rfl
@[simp] theorem applyIncDecFlags_h (res : Byte) (s : State) : (applyIncDecFlags res s).h = s.h := rfl
@[simp] theorem applyIncDecFlags_l (res : Byte) (s : State) : (applyIncDecFlags res s).l = s.l := rfl
@[simp] theorem applyIncDecFlags_sp (res : Byte) (s : State) : (applyIncDecFlags res s).sp = s.sp := rfl
@[simp] theorem applyIncDecFlags_pc (res : Byte) (s : State) : (applyIncDecFlags res s).pc = s.pc := rfl
@[simp] theorem applyIncDecFlags_flags_z (res : Byte) (s : State) : (applyIncDecFlags res s).flags.z = zeroOf res := rfl
@[simp] theorem applyIncDecFlags_flags_s (res : Byte) (s : State) : (applyIncDecFlags res s).flags.s = signOf res := rfl
@[simp] theorem applyIncDecFlags_flags_p (res : Byte) (s : State) : (applyIncDecFlags res s).flags.p = parityEven res := rfl
@[simp] theorem applyIncDecFlags_flags_cy (res : Byte) (s : State) : (applyIncDecFlags res s).flags.cy = s.flags.cy := rfl
@[simp] theorem applyIncDecFlags_flags_ac (res : Byte) (s : State) : (applyIncDecFlags res s).flags.ac = s.flags.ac := rfl
@[simp] theorem applyIncDecFlags_inte (res : Byte) (s : State) : (applyIncDecFlags res s).inte = s.inte := rfl
@[simp] theorem applyIncDecFlags_run (res : Byte) (s : State) : (applyIncDecFlags res s).run = s.run := rfl
@[simp] theorem applyIncDecFlags_faultOpcode (res : Byte) (s : State) : (applyIncDecFlags res s).faultOpcode = s.faultOpcode := rfl
@[simp] theorem applyIncDecFlags_faultPc (res : Byte) (s : State) : (applyIncDecFlags res s).faultPc = s.faultPc := rfl
@[simp] theorem applyIncDecFlags_mem (res : Byte) (s : State) : (applyIncDecFlags res s).mem = s.mem := rfl

/-! ### `applyArithmeticFlags` -/

@[simp] theorem applyArithmeticFlags_a (raw : Word) (s : State) : (applyArithmeticFlags raw s).a = lowByte raw := rfl
@[simp] theorem applyArithmeticFlags_b (raw : Word) (s : State) : (applyArithmeticFlags raw s).b = s.b := rfl
@[simp] theorem applyArithmeticFlags_c (raw : Word) (s : State) : (applyArithmeticFlags raw s).c = s.c := rfl
@[simp] theorem applyArithmeticFlags_d (raw : Word) (s : State) : (applyArithmeticFlags raw s).d = s.d := rfl
@[simp] theorem applyArithmeticFlags_e (raw : Word) (s : State) : (applyArithmeticFlags raw s).e = s.e := rfl
@[simp] theorem applyArithmeticFlags_h (raw : Word) (s : State) : (applyArithmeticFlags raw s).h = s.h := rfl
@[simp] theorem applyArithmeticFlags_l (raw : Word) (s : State) : (applyArithmeticFlags raw s).l = s.l := rfl
@[simp] theorem applyArithmeticFlags_sp (raw : Word) (s : State) : (applyArithmeticFlags raw s).sp = s.sp := rfl
@[simp] theorem applyArithmeticFlags_pc (raw : Word) (s : State) : (applyArithmeticFlags raw s).pc = s.pc := rfl
@[simp] theorem applyArithmeticFlags_flags_z (raw : Word) (s : State) : (applyArithmeticFlags raw s).flags.z = zeroOf (lowByte raw) := rfl
@[simp] theorem applyArithmeticFlags_flags_s (raw : Word) (s : State) : (applyArithmeticFlags raw s).flags.s = signOf (lowByte raw) := rfl
@[simp] theorem applyArithmeticFlags_flags_p (raw : Word) (s : State) : (applyArithmeticFlags raw s).flags.p = parityEven (lowByte raw) := rfl
@[simp] theorem applyArithmeticFlags_flags_cy (raw : Word) (s : State) : (applyArithmeticFlags raw s).flags.cy = decide (highByte raw ≠ 0x00) := rfl
@[simp] theorem applyArithmeticFlags_flags_ac (raw : Word) (s : State) : (applyArithmeticFlags raw s).flags.ac = s.flags.ac := rfl
@[simp] theorem applyArithmeticFlags_inte (raw : Word) (s : State) : (applyArithmeticFlags raw s).inte = s.inte := rfl
@[simp] theorem applyArithmeticFlags_run (raw : Word) (s : State) : (applyArithmeticFlags raw s).run = s.run := rfl
@[simp] theorem applyArithmeticFlags_faultOpcode (raw : Word) (s : State) : (applyArithmeticFlags raw s).faultOpcode = s.faultOpcode := rfl
@[simp] theorem applyArithmeticFlags_faultPc (raw : Word) (s : State) : (applyArithmeticFlags raw s).faultPc = s.faultPc := rfl
@[simp] theorem applyArithmeticFlags_mem (raw : Word) (s : State) : (applyArithmeticFlags raw s).mem = s.mem := rfl

end Sys2Proof.Machine
end

