-- ==== Sys2Proof/Laws/Ops.lean ====
section
/-! SUPPORT. What each shared operation does, once: its reads and writes of registers, pairs, memory and the stack. -/

namespace Sys2Proof.Machine

/-! ### Bytes and pairs -/

theorem joinBytes_toNat (high low : Byte) : (joinBytes high low).toNat = 256 * high.toNat + low.toNat := by
  refine (BitVec.toNat_append high low).trans ?_
  rw [← Nat.shiftLeft_add_eq_or_of_lt low.isLt, Nat.shiftLeft_eq]
  omega

theorem highByte_toNat (v : Word) : (highByte v).toNat = v.toNat / 256 := by
  simp [highByte, Nat.shiftRight_eq_div_pow]
  omega

theorem lowByte_toNat (v : Word) : (lowByte v).toNat = v.toNat % 256 := by
  simp [lowByte]

@[simp] theorem highByte_joinBytes (high low : Byte) : highByte (joinBytes high low) = high := by
  apply BitVec.eq_of_toNat_eq
  rw [highByte_toNat, joinBytes_toNat]
  omega

@[simp] theorem lowByte_joinBytes (high low : Byte) : lowByte (joinBytes high low) = low := by
  apply BitVec.eq_of_toNat_eq
  rw [lowByte_toNat, joinBytes_toNat]
  omega

@[simp] theorem joinBytes_high_low (v : Word) : joinBytes (highByte v) (lowByte v) = v := by
  apply BitVec.eq_of_toNat_eq
  rw [joinBytes_toNat, highByte_toNat, lowByte_toNat]
  omega

/-! ### General registers seen through the updates -/

theorem getReg_congr {s t : State} (ha : t.a = s.a) (hb : t.b = s.b) (hc : t.c = s.c) (hd : t.d = s.d) (he : t.e = s.e)
    (hh : t.h = s.h) (hl : t.l = s.l) (r : Reg8) : getReg r t = getReg r s := by
  cases r <;> simp only [getReg, ha, hb, hc, hd, he, hh, hl]

@[simp] theorem getReg_memWrite (r : Reg8) (addr : Word) (v : Byte) (s : State) :
    getReg r (memWrite addr v s) = getReg r s := by cases r <;> rfl
@[simp] theorem getReg_memWrite2 (r : Reg8) (addr v : Word) (s : State) :
    getReg r (memWrite2 addr v s) = getReg r s := by cases r <;> rfl
@[simp] theorem getReg_pushWord (r : Reg8) (high low : Byte) (s : State) :
    getReg r (pushWord high low s) = getReg r s := by cases r <;> rfl
@[simp] theorem getReg_popWord (r : Reg8) (s : State) : getReg r (popWord s) = getReg r s := by cases r <;> rfl
@[simp] theorem getReg_setPc (r : Reg8) (target : Word) (s : State) : getReg r (setPc target s) = getReg r s := by
  cases r <;> rfl
@[simp] theorem getReg_advance (r : Reg8) (n : Word) (s : State) : getReg r (advance n s) = getReg r s := by
  cases r <;> rfl
@[simp] theorem getReg_halt (r : Reg8) (s : State) : getReg r (halt s) = getReg r s := by cases r <;> rfl
@[simp] theorem getReg_raiseUnimplemented (r : Reg8) (opcode : Byte) (s : State) :
    getReg r (raiseUnimplemented opcode s) = getReg r s := by cases r <;> rfl
@[simp] theorem getReg_setAc (r : Reg8) (v : Bool) (s : State) : getReg r (setAc v s) = getReg r s := by cases r <;> rfl
@[simp] theorem getReg_setCy (r : Reg8) (v : Bool) (s : State) : getReg r (setCy v s) = getReg r s := by cases r <;> rfl
@[simp] theorem getReg_compareFlags (r : Reg8) (raw : Word) (s : State) :
    getReg r (compareFlags raw s) = getReg r s := by cases r <;> rfl
@[simp] theorem getReg_applyLogicFlags (r : Reg8) (res : Byte) (s : State) :
    getReg r (applyLogicFlags res s) = getReg r s := by cases r <;> rfl
@[simp] theorem getReg_applyIncDecFlags (r : Reg8) (res : Byte) (s : State) :
    getReg r (applyIncDecFlags res s) = getReg r s := by cases r <;> rfl

/-! ### Memory seen through the updates -/

/-- `memRead` sees nothing but the memory. -/
theorem memRead_congr {s t : State} (h : t.mem = s.mem) (addr : Word) : memRead addr t = memRead addr s := by
  simp only [memRead, h]

theorem toNat_inj (a b : Word) : a.toNat = b.toNat ↔ a = b := ⟨BitVec.eq_of_toNat_eq, congrArg _⟩

/-- The memory of a state keeps its canonical form under a write. -/
theorem wf_memWrite {s : State} (addr : Word) (v : Byte) (h : Memory.wf s.mem = true) :
    Memory.wf (memWrite addr v s).mem = true :=
  Memory.wf_write v h addr.isLt

theorem wf_memWrite2 {s : State} (addr v : Word) (h : Memory.wf s.mem = true) :
    Memory.wf (memWrite2 addr v s).mem = true :=
  wf_memWrite _ _ (wf_memWrite _ _ h)

theorem wf_pushWord {s : State} (high low : Byte) (h : Memory.wf s.mem = true) :
    Memory.wf (pushWord high low s).mem = true :=
  Memory.wf_write _ (Memory.wf_write _ h (s.sp - 2).isLt) (s.sp - 2 + 1).isLt

/-! ### Operands -/

/-- A write of an 8-bit operand changes its register or its byte of memory, and nothing else. -/
theorem wr8_cases (o : Operand8) (v : Byte) (s : State) :
    (∃ r, o = .reg r ∧ wr8 o v s = setReg r v s) ∨ (o = .m ∧ wr8 o v s = memWrite (getPair .hl s) v s) := by
  cases o with
  | reg r => exact .inl ⟨r, rfl, rfl⟩
  | m => exact .inr ⟨rfl, rfl⟩

@[simp] theorem wr8_sp (o : Operand8) (v : Byte) (s : State) : (wr8 o v s).sp = s.sp := by cases o <;> simp [wr8]
@[simp] theorem wr8_pc (o : Operand8) (v : Byte) (s : State) : (wr8 o v s).pc = s.pc := by cases o <;> simp [wr8]
@[simp] theorem wr8_flags (o : Operand8) (v : Byte) (s : State) : (wr8 o v s).flags = s.flags := by
  cases o <;> simp [wr8]
@[simp] theorem wr8_inte (o : Operand8) (v : Byte) (s : State) : (wr8 o v s).inte = s.inte := by
  cases o <;> simp [wr8]
@[simp] theorem wr8_run (o : Operand8) (v : Byte) (s : State) : (wr8 o v s).run = s.run := by cases o <;> simp [wr8]
@[simp] theorem wr8_faultOpcode (o : Operand8) (v : Byte) (s : State) :
    (wr8 o v s).faultOpcode = s.faultOpcode := by cases o <;> simp [wr8]
@[simp] theorem wr8_faultPc (o : Operand8) (v : Byte) (s : State) : (wr8 o v s).faultPc = s.faultPc := by
  cases o <;> simp [wr8]

theorem wf_wr8 {s : State} (o : Operand8) (v : Byte) (h : Memory.wf s.mem = true) : Memory.wf (wr8 o v s).mem = true := by
  cases o with
  | reg r => simpa [wr8] using h
  | m => exact wf_memWrite _ _ h

/-! ### Stopping -/

theorem stepStop_running : stepStop .running = none := rfl

/-- A step is enabled in RUNNING only. -/
theorem stepStop_eq_none {run : RunState} (h : stepStop run = none) : run = .running := by
  cases run <;> first | rfl | cases h

end Sys2Proof.Machine
end

