-- ==== Sys2Proof/Laws/Forms.lean ====
section
/-! SUPPORT. What `exec` and `step` can do, once: every instruction applies the operation of its form, so a proof over all
instructions is a case split over the forms and not over the constructors of Instr. -/

namespace Sys2Proof.Machine

/-- The effect of an accumulator operation but for the advance. -/
def aluEffect (op : AluOp) (b : Byte) (s : State) : State :=
  match op with
  | .add => addToA b s
  | .adc => adcToA b s
  | .sub => subFromA b s
  | .sbb => sbbFromA b s
  | .ana => andWithA b s
  | .xra => xorWithA b s
  | .ora => orWithA b s
  | .cmp => compareWithA b s

/-- A rotate by name. -/
def rotateEffect (op : RotateOp) (s : State) : State :=
  match op with
  | .rlc => rlc s
  | .rrc => rrc s
  | .ral => ral s
  | .rar => rar s

/-- The operation of a form. -/
def applyForm (f : Form) (s : State) : State :=
  match f with
  | .mov dst src => mov dst src s
  | .inr o => inr o s
  | .dcr o => dcr o s
  | .inx p => inx p s
  | .dcx p => dcx p s
  | .dad p => dad p s
  | .alu op src => advance 1 (aluEffect op (opnd8 src s) s)
  | .aluImm op d8 => advance 2 (aluEffect op d8 s)
  | .rotate op => rotateEffect op s
  | .mvi dst d8 => mvi dst d8 s
  | .lxi p d16 => lxi p d16 s
  | .sta a16 => sta a16 s
  | .lda a16 => lda a16 s
  | .shld a16 => shld a16 s
  | .lhld a16 => lhld a16 s
  | .stax p => stax p s
  | .ldax p => ldax p s
  | .push p => push p s
  | .pop p => pop p s
  | .jmp a16 => jumpIf true a16 s
  | .jcc ccc a16 => jumpIf (condition ccc s.flags) a16 s
  | .hlt => hlt s
  | .cma => cma s
  | .stc => stc s
  | .cmc => cmc s
  | .unimplemented opcode => raiseUnimplemented opcode s

/-- Every instruction answers a next state, the operation of its form applied. -/
theorem exec_eq_applyForm (i : Instr) (s : State) : exec i s = .next (applyForm i.form s) := by
  cases i <;> rfl

/-- The inversion of `exec`. -/
theorem exec_next {i : Instr} {s t : State} (h : exec i s = .next t) : t = applyForm i.form s := by
  rw [exec_eq_applyForm] at h
  exact (Host.Outcome.next.inj h).symm

/-- The inversion of `step`: it answers a next state in RUNNING only, and then that of the instruction fetched. -/
theorem step_next {s t : State} (h : step s = .next t) :
    s.run = .running ∧ t = applyForm (fetchInstr s).form s := by
  unfold step at h
  split at h
  · cases h
  · next hstop => exact ⟨stepStop_eq_none hstop, exec_next h⟩

/-- A step in RUNNING is the execution of the instruction fetched. -/
theorem step_running {s : State} (h : s.run = .running) : step s = exec (fetchInstr s) s := by
  simp [step, h, stepStop]

end Sys2Proof.Machine
end

