-- ==== Sys2Proof/Laws/PerInstr.lean ====
section
/-! SUPPORT. Families of lemmas over the instructions as syntax, one lemma per constructor of Instr. -/

namespace Sys2Proof

/-- How many bytes a form has: one opcode byte and its operand bytes (spec R60). -/
def Laws.EncodedLength.bytes : Form → Nat
  | .aluImm _ _ | .mvi _ _ => 2
  | .lxi _ _ | .sta _ | .lda _ | .shld _ | .lhld _ | .jmp _ | .jcc _ _ => 3
  | .mov _ _ | .inr _ | .dcr _ | .inx _ | .dcx _ | .dad _ | .alu _ _ | .rotate _ | .stax _ | .ldax _ => 1
  | .push _ | .pop _ | .hlt | .cma | .stc | .cmc | .unimplemented _ => 1

/-- The encoding starts with the form's opcode byte and has the form's number of bytes. -/
def Laws.EncodedLength.Statement (i : Instr) : Prop :=
  (encode i).head? = some i.form.opcode ∧ i.length = Laws.EncodedLength.bytes i.form

theorem Laws.EncodedLength.lxiB (d16 : Word) : Laws.EncodedLength.Statement (.lxiB d16) := ⟨rfl, rfl⟩
theorem Laws.EncodedLength.staxB : Laws.EncodedLength.Statement .staxB := ⟨rfl, rfl⟩
theorem Laws.EncodedLength.inxB : Laws.EncodedLength.Statement .inxB := ⟨rfl, rfl⟩
theorem Laws.EncodedLength.inrB : Laws.EncodedLength.Statement .inrB := ⟨rfl, rfl⟩
theorem Laws.EncodedLength.dcrB : Laws.EncodedLength.Statement .dcrB := ⟨rfl, rfl⟩
theorem Laws.EncodedLength.mviB (d8 : Byte) : Laws.EncodedLength.Statement (.mviB d8) := ⟨rfl, rfl⟩
theorem Laws.EncodedLength.rlc : Laws.EncodedLength.Statement .rlc := ⟨rfl, rfl⟩
theorem Laws.EncodedLength.dadB : Laws.EncodedLength.Statement .dadB := ⟨rfl, rfl⟩
theorem Laws.EncodedLength.ldaxB : Laws.EncodedLength.Statement .ldaxB := ⟨rfl, rfl⟩
theorem Laws.EncodedLength.dcxB : Laws.EncodedLength.Statement .dcxB := ⟨rfl, rfl⟩
theorem Laws.EncodedLength.inrC : Laws.EncodedLength.Statement .inrC := ⟨rfl, rfl⟩
theorem Laws.EncodedLength.dcrC : Laws.EncodedLength.Statement .dcrC := ⟨rfl, rfl⟩
theorem Laws.EncodedLength.mviC (d8 : Byte) : Laws.EncodedLength.Statement (.mviC d8) := ⟨rfl, rfl⟩
theorem Laws.EncodedLength.rrc : Laws.EncodedLength.Statement .rrc := ⟨rfl, rfl⟩
theorem Laws.EncodedLength.lxiD (d16 : Word) : Laws.EncodedLength.Statement (.lxiD d16) := ⟨rfl, rfl⟩
theorem Laws.EncodedLength.staxD : Laws.EncodedLength.Statement .staxD := ⟨rfl, rfl⟩
theorem Laws.EncodedLength.inxD : Laws.EncodedLength.Statement .inxD := ⟨rfl, rfl⟩
theorem Laws.EncodedLength.inrD : Laws.EncodedLength.Statement .inrD := ⟨rfl, rfl⟩
theorem Laws.EncodedLength.dcrD : Laws.EncodedLength.Statement .dcrD := ⟨rfl, rfl⟩
theorem Laws.EncodedLength.mviD (d8 : Byte) : Laws.EncodedLength.Statement (.mviD d8) := ⟨rfl, rfl⟩
theorem Laws.EncodedLength.ral : Laws.EncodedLength.Statement .ral := ⟨rfl, rfl⟩
theorem Laws.EncodedLength.dadD : Laws.EncodedLength.Statement .dadD := ⟨rfl, rfl⟩
theorem Laws.EncodedLength.ldaxD : Laws.EncodedLength.Statement .ldaxD := ⟨rfl, rfl⟩
theorem Laws.EncodedLength.dcxD : Laws.EncodedLength.Statement .dcxD := ⟨rfl, rfl⟩
theorem Laws.EncodedLength.inrE : Laws.EncodedLength.Statement .inrE := ⟨rfl, rfl⟩
theorem Laws.EncodedLength.dcrE : Laws.EncodedLength.Statement .dcrE := ⟨rfl, rfl⟩
theorem Laws.EncodedLength.mviE (d8 : Byte) : Laws.EncodedLength.Statement (.mviE d8) := ⟨rfl, rfl⟩
theorem Laws.EncodedLength.rar : Laws.EncodedLength.Statement .rar := ⟨rfl, rfl⟩
theorem Laws.EncodedLength.lxiH (d16 : Word) : Laws.EncodedLength.Statement (.lxiH d16) := ⟨rfl, rfl⟩
theorem Laws.EncodedLength.shld (a16 : Word) : Laws.EncodedLength.Statement (.shld a16) := ⟨rfl, rfl⟩
theorem Laws.EncodedLength.inxH : Laws.EncodedLength.Statement .inxH := ⟨rfl, rfl⟩
theorem Laws.EncodedLength.inrH : Laws.EncodedLength.Statement .inrH := ⟨rfl, rfl⟩
theorem Laws.EncodedLength.dcrH : Laws.EncodedLength.Statement .dcrH := ⟨rfl, rfl⟩
theorem Laws.EncodedLength.mviH (d8 : Byte) : Laws.EncodedLength.Statement (.mviH d8) := ⟨rfl, rfl⟩
theorem Laws.EncodedLength.dadH : Laws.EncodedLength.Statement .dadH := ⟨rfl, rfl⟩
theorem Laws.EncodedLength.lhld (a16 : Word) : Laws.EncodedLength.Statement (.lhld a16) := ⟨rfl, rfl⟩
theorem Laws.EncodedLength.dcxH : Laws.EncodedLength.Statement .dcxH := ⟨rfl, rfl⟩
theorem Laws.EncodedLength.inrL : Laws.EncodedLength.Statement .inrL := ⟨rfl, rfl⟩
theorem Laws.EncodedLength.dcrL : Laws.EncodedLength.Statement .dcrL := ⟨rfl, rfl⟩
theorem Laws.EncodedLength.mviL (d8 : Byte) : Laws.EncodedLength.Statement (.mviL d8) := ⟨rfl, rfl⟩
theorem Laws.EncodedLength.cma : Laws.EncodedLength.Statement .cma := ⟨rfl, rfl⟩
theorem Laws.EncodedLength.lxiSp (d16 : Word) : Laws.EncodedLength.Statement (.lxiSp d16) := ⟨rfl, rfl⟩
theorem Laws.EncodedLength.sta (a16 : Word) : Laws.EncodedLength.Statement (.sta a16) := ⟨rfl, rfl⟩
theorem Laws.EncodedLength.inxSp : Laws.EncodedLength.Statement .inxSp := ⟨rfl, rfl⟩
theorem Laws.EncodedLength.inrM : Laws.EncodedLength.Statement .inrM := ⟨rfl, rfl⟩
theorem Laws.EncodedLength.dcrM : Laws.EncodedLength.Statement .dcrM := ⟨rfl, rfl⟩
theorem Laws.EncodedLength.mviM (d8 : Byte) : Laws.EncodedLength.Statement (.mviM d8) := ⟨rfl, rfl⟩
theorem Laws.EncodedLength.stc : Laws.EncodedLength.Statement .stc := ⟨rfl, rfl⟩
theorem Laws.EncodedLength.dadSp : Laws.EncodedLength.Statement .dadSp := ⟨rfl, rfl⟩
theorem Laws.EncodedLength.lda (a16 : Word) : Laws.EncodedLength.Statement (.lda a16) := ⟨rfl, rfl⟩
theorem Laws.EncodedLength.dcxSp : Laws.EncodedLength.Statement .dcxSp := ⟨rfl, rfl⟩
theorem Laws.EncodedLength.inrA : Laws.EncodedLength.Statement .inrA := ⟨rfl, rfl⟩
theorem Laws.EncodedLength.dcrA : Laws.EncodedLength.Statement .dcrA := ⟨rfl, rfl⟩
theorem Laws.EncodedLength.mviA (d8 : Byte) : Laws.EncodedLength.Statement (.mviA d8) := ⟨rfl, rfl⟩
theorem Laws.EncodedLength.cmc : Laws.EncodedLength.Statement .cmc := ⟨rfl, rfl⟩
theorem Laws.EncodedLength.movBB : Laws.EncodedLength.Statement .movBB := ⟨rfl, rfl⟩
theorem Laws.EncodedLength.movBC : Laws.EncodedLength.Statement .movBC := ⟨rfl, rfl⟩
theorem Laws.EncodedLength.movBD : Laws.EncodedLength.Statement .movBD := ⟨rfl, rfl⟩
theorem Laws.EncodedLength.movBE : Laws.EncodedLength.Statement .movBE := ⟨rfl, rfl⟩
theorem Laws.EncodedLength.movBH : Laws.EncodedLength.Statement .movBH := ⟨rfl, rfl⟩
theorem Laws.EncodedLength.movBL : Laws.EncodedLength.Statement .movBL := ⟨rfl, rfl⟩
theorem Laws.EncodedLength.movBM : Laws.EncodedLength.Statement .movBM := ⟨rfl, rfl⟩
theorem Laws.EncodedLength.movBA : Laws.EncodedLength.Statement .movBA := ⟨rfl, rfl⟩
theorem Laws.EncodedLength.movCB : Laws.EncodedLength.Statement .movCB := ⟨rfl, rfl⟩
theorem Laws.EncodedLength.movCC : Laws.EncodedLength.Statement .movCC := ⟨rfl, rfl⟩
theorem Laws.EncodedLength.movCD : Laws.EncodedLength.Statement .movCD := ⟨rfl, rfl⟩
theorem Laws.EncodedLength.movCE : Laws.EncodedLength.Statement .movCE := ⟨rfl, rfl⟩
theorem Laws.EncodedLength.movCH : Laws.EncodedLength.Statement .movCH := ⟨rfl, rfl⟩
theorem Laws.EncodedLength.movCL : Laws.EncodedLength.Statement .movCL := ⟨rfl, rfl⟩
theorem Laws.EncodedLength.movCM : Laws.EncodedLength.Statement .movCM := ⟨rfl, rfl⟩
theorem Laws.EncodedLength.movCA : Laws.EncodedLength.Statement .movCA := ⟨rfl, rfl⟩
theorem Laws.EncodedLength.movDB : Laws.EncodedLength.Statement .movDB := ⟨rfl, rfl⟩
theorem Laws.EncodedLength.movDC : Laws.EncodedLength.Statement .movDC := ⟨rfl, rfl⟩
theorem Laws.EncodedLength.movDD : Laws.EncodedLength.Statement .movDD := ⟨rfl, rfl⟩
theorem Laws.EncodedLength.movDE : Laws.EncodedLength.Statement .movDE := ⟨rfl, rfl⟩
theorem Laws.EncodedLength.movDH : Laws.EncodedLength.Statement .movDH := ⟨rfl, rfl⟩
theorem Laws.EncodedLength.movDL : Laws.EncodedLength.Statement .movDL := ⟨rfl, rfl⟩
theorem Laws.EncodedLength.movDM : Laws.EncodedLength.Statement .movDM := ⟨rfl, rfl⟩
theorem Laws.EncodedLength.movDA : Laws.EncodedLength.Statement .movDA := ⟨rfl, rfl⟩
theorem Laws.EncodedLength.movEB : Laws.EncodedLength.Statement .movEB := ⟨rfl, rfl⟩
theorem Laws.EncodedLength.movEC : Laws.EncodedLength.Statement .movEC := ⟨rfl, rfl⟩
theorem Laws.EncodedLength.movED : Laws.EncodedLength.Statement .movED := ⟨rfl, rfl⟩
theorem Laws.EncodedLength.movEE : Laws.EncodedLength.Statement .movEE := ⟨rfl, rfl⟩
theorem Laws.EncodedLength.movEH : Laws.EncodedLength.Statement .movEH := ⟨rfl, rfl⟩
theorem Laws.EncodedLength.movEL : Laws.EncodedLength.Statement .movEL := ⟨rfl, rfl⟩
theorem Laws.EncodedLength.movEM : Laws.EncodedLength.Statement .movEM := ⟨rfl, rfl⟩
theorem Laws.EncodedLength.movEA : Laws.EncodedLength.Statement .movEA := ⟨rfl, rfl⟩
theorem Laws.EncodedLength.movHB : Laws.EncodedLength.Statement .movHB := ⟨rfl, rfl⟩
theorem Laws.EncodedLength.movHC : Laws.EncodedLength.Statement .movHC := ⟨rfl, rfl⟩
theorem Laws.EncodedLength.movHD : Laws.EncodedLength.Statement .movHD := ⟨rfl, rfl⟩
theorem Laws.EncodedLength.movHE : Laws.EncodedLength.Statement .movHE := ⟨rfl, rfl⟩
theorem Laws.EncodedLength.movHH : Laws.EncodedLength.Statement .movHH := ⟨rfl, rfl⟩
theorem Laws.EncodedLength.movHL : Laws.EncodedLength.Statement .movHL := ⟨rfl, rfl⟩
theorem Laws.EncodedLength.movHM : Laws.EncodedLength.Statement .movHM := ⟨rfl, rfl⟩
theorem Laws.EncodedLength.movHA : Laws.EncodedLength.Statement .movHA := ⟨rfl, rfl⟩
theorem Laws.EncodedLength.movLB : Laws.EncodedLength.Statement .movLB := ⟨rfl, rfl⟩
theorem Laws.EncodedLength.movLC : Laws.EncodedLength.Statement .movLC := ⟨rfl, rfl⟩
theorem Laws.EncodedLength.movLD : Laws.EncodedLength.Statement .movLD := ⟨rfl, rfl⟩
theorem Laws.EncodedLength.movLE : Laws.EncodedLength.Statement .movLE := ⟨rfl, rfl⟩
theorem Laws.EncodedLength.movLH : Laws.EncodedLength.Statement .movLH := ⟨rfl, rfl⟩
theorem Laws.EncodedLength.movLL : Laws.EncodedLength.Statement .movLL := ⟨rfl, rfl⟩
theorem Laws.EncodedLength.movLM : Laws.EncodedLength.Statement .movLM := ⟨rfl, rfl⟩
theorem Laws.EncodedLength.movLA : Laws.EncodedLength.Statement .movLA := ⟨rfl, rfl⟩
theorem Laws.EncodedLength.movMB : Laws.EncodedLength.Statement .movMB := ⟨rfl, rfl⟩
theorem Laws.EncodedLength.movMC : Laws.EncodedLength.Statement .movMC := ⟨rfl, rfl⟩
theorem Laws.EncodedLength.movMD : Laws.EncodedLength.Statement .movMD := ⟨rfl, rfl⟩
theorem Laws.EncodedLength.movME : Laws.EncodedLength.Statement .movME := ⟨rfl, rfl⟩
theorem Laws.EncodedLength.movMH : Laws.EncodedLength.Statement .movMH := ⟨rfl, rfl⟩
theorem Laws.EncodedLength.movML : Laws.EncodedLength.Statement .movML := ⟨rfl, rfl⟩
theorem Laws.EncodedLength.hlt : Laws.EncodedLength.Statement .hlt := ⟨rfl, rfl⟩
theorem Laws.EncodedLength.movMA : Laws.EncodedLength.Statement .movMA := ⟨rfl, rfl⟩
theorem Laws.EncodedLength.movAB : Laws.EncodedLength.Statement .movAB := ⟨rfl, rfl⟩
theorem Laws.EncodedLength.movAC : Laws.EncodedLength.Statement .movAC := ⟨rfl, rfl⟩
theorem Laws.EncodedLength.movAD : Laws.EncodedLength.Statement .movAD := ⟨rfl, rfl⟩
theorem Laws.EncodedLength.movAE : Laws.EncodedLength.Statement .movAE := ⟨rfl, rfl⟩
theorem Laws.EncodedLength.movAH : Laws.EncodedLength.Statement .movAH := ⟨rfl, rfl⟩
theorem Laws.EncodedLength.movAL : Laws.EncodedLength.Statement .movAL := ⟨rfl, rfl⟩
theorem Laws.EncodedLength.movAM : Laws.EncodedLength.Statement .movAM := ⟨rfl, rfl⟩
theorem Laws.EncodedLength.movAA : Laws.EncodedLength.Statement .movAA := ⟨rfl, rfl⟩
theorem Laws.EncodedLength.addB : Laws.EncodedLength.Statement .addB := ⟨rfl, rfl⟩
theorem Laws.EncodedLength.addC : Laws.EncodedLength.Statement .addC := ⟨rfl, rfl⟩
theorem Laws.EncodedLength.addD : Laws.EncodedLength.Statement .addD := ⟨rfl, rfl⟩
theorem Laws.EncodedLength.addE : Laws.EncodedLength.Statement .addE := ⟨rfl, rfl⟩
theorem Laws.EncodedLength.addH : Laws.EncodedLength.Statement .addH := ⟨rfl, rfl⟩
theorem Laws.EncodedLength.addL : Laws.EncodedLength.Statement .addL := ⟨rfl, rfl⟩
theorem Laws.EncodedLength.addM : Laws.EncodedLength.Statement .addM := ⟨rfl, rfl⟩
theorem Laws.EncodedLength.addA : Laws.EncodedLength.Statement .addA := ⟨rfl, rfl⟩
theorem Laws.EncodedLength.adcB : Laws.EncodedLength.Statement .adcB := ⟨rfl, rfl⟩
theorem Laws.EncodedLength.adcC : Laws.EncodedLength.Statement .adcC := ⟨rfl, rfl⟩
theorem Laws.EncodedLength.adcD : Laws.EncodedLength.Statement .adcD := ⟨rfl, rfl⟩
theorem Laws.EncodedLength.adcE : Laws.EncodedLength.Statement .adcE := ⟨rfl, rfl⟩
theorem Laws.EncodedLength.adcH : Laws.EncodedLength.Statement .adcH := ⟨rfl, rfl⟩
theorem Laws.EncodedLength.adcL : Laws.EncodedLength.Statement .adcL := ⟨rfl, rfl⟩
theorem Laws.EncodedLength.adcM : Laws.EncodedLength.Statement .adcM := ⟨rfl, rfl⟩
theorem Laws.EncodedLength.adcA : Laws.EncodedLength.Statement .adcA := ⟨rfl, rfl⟩
theorem Laws.EncodedLength.subB : Laws.EncodedLength.Statement .subB := ⟨rfl, rfl⟩
theorem Laws.EncodedLength.subC : Laws.EncodedLength.Statement .subC := ⟨rfl, rfl⟩
theorem Laws.EncodedLength.subD : Laws.EncodedLength.Statement .subD := ⟨rfl, rfl⟩
theorem Laws.EncodedLength.subE : Laws.EncodedLength.Statement .subE := ⟨rfl, rfl⟩
theorem Laws.EncodedLength.subH : Laws.EncodedLength.Statement .subH := ⟨rfl, rfl⟩
theorem Laws.EncodedLength.subL : Laws.EncodedLength.Statement .subL := ⟨rfl, rfl⟩
theorem Laws.EncodedLength.subM : Laws.EncodedLength.Statement .subM := ⟨rfl, rfl⟩
theorem Laws.EncodedLength.subA : Laws.EncodedLength.Statement .subA := ⟨rfl, rfl⟩
theorem Laws.EncodedLength.sbbB : Laws.EncodedLength.Statement .sbbB := ⟨rfl, rfl⟩
theorem Laws.EncodedLength.sbbC : Laws.EncodedLength.Statement .sbbC := ⟨rfl, rfl⟩
theorem Laws.EncodedLength.sbbD : Laws.EncodedLength.Statement .sbbD := ⟨rfl, rfl⟩
theorem Laws.EncodedLength.sbbE : Laws.EncodedLength.Statement .sbbE := ⟨rfl, rfl⟩
theorem Laws.EncodedLength.sbbH : Laws.EncodedLength.Statement .sbbH := ⟨rfl, rfl⟩
theorem Laws.EncodedLength.sbbL : Laws.EncodedLength.Statement .sbbL := ⟨rfl, rfl⟩
theorem Laws.EncodedLength.sbbM : Laws.EncodedLength.Statement .sbbM := ⟨rfl, rfl⟩
theorem Laws.EncodedLength.sbbA : Laws.EncodedLength.Statement .sbbA := ⟨rfl, rfl⟩
theorem Laws.EncodedLength.anaB : Laws.EncodedLength.Statement .anaB := ⟨rfl, rfl⟩
theorem Laws.EncodedLength.anaC : Laws.EncodedLength.Statement .anaC := ⟨rfl, rfl⟩
theorem Laws.EncodedLength.anaD : Laws.EncodedLength.Statement .anaD := ⟨rfl, rfl⟩
theorem Laws.EncodedLength.anaE : Laws.EncodedLength.Statement .anaE := ⟨rfl, rfl⟩
theorem Laws.EncodedLength.anaH : Laws.EncodedLength.Statement .anaH := ⟨rfl, rfl⟩
theorem Laws.EncodedLength.anaL : Laws.EncodedLength.Statement .anaL := ⟨rfl, rfl⟩
theorem Laws.EncodedLength.anaM : Laws.EncodedLength.Statement .anaM := ⟨rfl, rfl⟩
theorem Laws.EncodedLength.anaA : Laws.EncodedLength.Statement .anaA := ⟨rfl, rfl⟩
theorem Laws.EncodedLength.xraB : Laws.EncodedLength.Statement .xraB := ⟨rfl, rfl⟩
theorem Laws.EncodedLength.xraC : Laws.EncodedLength.Statement .xraC := ⟨rfl, rfl⟩
theorem Laws.EncodedLength.xraD : Laws.EncodedLength.Statement .xraD := ⟨rfl, rfl⟩
theorem Laws.EncodedLength.xraE : Laws.EncodedLength.Statement .xraE := ⟨rfl, rfl⟩
theorem Laws.EncodedLength.xraH : Laws.EncodedLength.Statement .xraH := ⟨rfl, rfl⟩
theorem Laws.EncodedLength.xraL : Laws.EncodedLength.Statement .xraL := ⟨rfl, rfl⟩
theorem Laws.EncodedLength.xraM : Laws.EncodedLength.Statement .xraM := ⟨rfl, rfl⟩
theorem Laws.EncodedLength.xraA : Laws.EncodedLength.Statement .xraA := ⟨rfl, rfl⟩
theorem Laws.EncodedLength.oraB : Laws.EncodedLength.Statement .oraB := ⟨rfl, rfl⟩
theorem Laws.EncodedLength.oraC : Laws.EncodedLength.Statement .oraC := ⟨rfl, rfl⟩
theorem Laws.EncodedLength.oraD : Laws.EncodedLength.Statement .oraD := ⟨rfl, rfl⟩
theorem Laws.EncodedLength.oraE : Laws.EncodedLength.Statement .oraE := ⟨rfl, rfl⟩
theorem Laws.EncodedLength.oraH : Laws.EncodedLength.Statement .oraH := ⟨rfl, rfl⟩
theorem Laws.EncodedLength.oraL : Laws.EncodedLength.Statement .oraL := ⟨rfl, rfl⟩
theorem Laws.EncodedLength.oraM : Laws.EncodedLength.Statement .oraM := ⟨rfl, rfl⟩
theorem Laws.EncodedLength.oraA : Laws.EncodedLength.Statement .oraA := ⟨rfl, rfl⟩
theorem Laws.EncodedLength.cmpB : Laws.EncodedLength.Statement .cmpB := ⟨rfl, rfl⟩
theorem Laws.EncodedLength.cmpC : Laws.EncodedLength.Statement .cmpC := ⟨rfl, rfl⟩
theorem Laws.EncodedLength.cmpD : Laws.EncodedLength.Statement .cmpD := ⟨rfl, rfl⟩
theorem Laws.EncodedLength.cmpE : Laws.EncodedLength.Statement .cmpE := ⟨rfl, rfl⟩
theorem Laws.EncodedLength.cmpH : Laws.EncodedLength.Statement .cmpH := ⟨rfl, rfl⟩
theorem Laws.EncodedLength.cmpL : Laws.EncodedLength.Statement .cmpL := ⟨rfl, rfl⟩
theorem Laws.EncodedLength.cmpM : Laws.EncodedLength.Statement .cmpM := ⟨rfl, rfl⟩
theorem Laws.EncodedLength.cmpA : Laws.EncodedLength.Statement .cmpA := ⟨rfl, rfl⟩
theorem Laws.EncodedLength.popB : Laws.EncodedLength.Statement .popB := ⟨rfl, rfl⟩
theorem Laws.EncodedLength.jnz (a16 : Word) : Laws.EncodedLength.Statement (.jnz a16) := ⟨rfl, rfl⟩
theorem Laws.EncodedLength.jmp (a16 : Word) : Laws.EncodedLength.Statement (.jmp a16) := ⟨rfl, rfl⟩
theorem Laws.EncodedLength.pushB : Laws.EncodedLength.Statement .pushB := ⟨rfl, rfl⟩
theorem Laws.EncodedLength.adi (d8 : Byte) : Laws.EncodedLength.Statement (.adi d8) := ⟨rfl, rfl⟩
theorem Laws.EncodedLength.jz (a16 : Word) : Laws.EncodedLength.Statement (.jz a16) := ⟨rfl, rfl⟩
theorem Laws.EncodedLength.aci (d8 : Byte) : Laws.EncodedLength.Statement (.aci d8) := ⟨rfl, rfl⟩
theorem Laws.EncodedLength.popD : Laws.EncodedLength.Statement .popD := ⟨rfl, rfl⟩
theorem Laws.EncodedLength.jnc (a16 : Word) : Laws.EncodedLength.Statement (.jnc a16) := ⟨rfl, rfl⟩
theorem Laws.EncodedLength.pushD : Laws.EncodedLength.Statement .pushD := ⟨rfl, rfl⟩
theorem Laws.EncodedLength.sui (d8 : Byte) : Laws.EncodedLength.Statement (.sui d8) := ⟨rfl, rfl⟩
theorem Laws.EncodedLength.jc (a16 : Word) : Laws.EncodedLength.Statement (.jc a16) := ⟨rfl, rfl⟩
theorem Laws.EncodedLength.sbi (d8 : Byte) : Laws.EncodedLength.Statement (.sbi d8) := ⟨rfl, rfl⟩
theorem Laws.EncodedLength.popH : Laws.EncodedLength.Statement .popH := ⟨rfl, rfl⟩
theorem Laws.EncodedLength.jpo (a16 : Word) : Laws.EncodedLength.Statement (.jpo a16) := ⟨rfl, rfl⟩
theorem Laws.EncodedLength.pushH : Laws.EncodedLength.Statement .pushH := ⟨rfl, rfl⟩
theorem Laws.EncodedLength.ani (d8 : Byte) : Laws.EncodedLength.Statement (.ani d8) := ⟨rfl, rfl⟩
theorem Laws.EncodedLength.jpe (a16 : Word) : Laws.EncodedLength.Statement (.jpe a16) := ⟨rfl, rfl⟩
theorem Laws.EncodedLength.xri (d8 : Byte) : Laws.EncodedLength.Statement (.xri d8) := ⟨rfl, rfl⟩
theorem Laws.EncodedLength.popPsw : Laws.EncodedLength.Statement .popPsw := ⟨rfl, rfl⟩
theorem Laws.EncodedLength.jp (a16 : Word) : Laws.EncodedLength.Statement (.jp a16) := ⟨rfl, rfl⟩
theorem Laws.EncodedLength.pushPsw : Laws.EncodedLength.Statement .pushPsw := ⟨rfl, rfl⟩
theorem Laws.EncodedLength.ori (d8 : Byte) : Laws.EncodedLength.Statement (.ori d8) := ⟨rfl, rfl⟩
theorem Laws.EncodedLength.jm (a16 : Word) : Laws.EncodedLength.Statement (.jm a16) := ⟨rfl, rfl⟩
theorem Laws.EncodedLength.cpi (d8 : Byte) : Laws.EncodedLength.Statement (.cpi d8) := ⟨rfl, rfl⟩
theorem Laws.EncodedLength.unimplemented (opcode : Byte) : Laws.EncodedLength.Statement (.unimplemented opcode) := ⟨rfl, rfl⟩

end Sys2Proof
end

