-- ==== Sys2Proof/Tests/Slice0.lean ====
section
/-! SUPPORT. The model's own tests: the well-formedness smoke test, a word of every constructor, one-step vectors of the
spec, and a witness for every obligation that has hypotheses. Expected values are those of spec/95_test_vectors.md,
spec/opcode_table.json and the rules named, none the model's own answer. -/

namespace Sys2Proof.Machine

/-! ### Well-formedness -/

/-- The one check: an `unimplemented` carries a byte of R71's list; 3E is MVI A,d8. -/
theorem test_wellFormed_refuses : (Instr.unimplemented 0x3E).wellFormed = false := by decide

theorem test_wellFormed_accepts : (Instr.unimplemented 0xFF).wellFormed = true ∧ (Instr.mviA 0x00).wellFormed = true := by
  decide

/-! ### Decoding: the word of every opcode byte, its bits those of the `encoding` column of spec/opcode_table.json,
followed by 34 12; beside the instruction stands how many bytes the decoder consumed -/

/-- The instruction decoded from a byte followed by 34 12, and its length. -/
def decoded (opcode : Byte) : Instr × Nat :=
  match decode [opcode, 0x34, 0x12] with
  | .ok (i, rest) => (i, 3 - rest.length)
  | .error _ => (.unimplemented opcode, 0)

theorem test_decode_row0 :
    ([0b00000000, 0b00000001, 0b00000010, 0b00000011, 0b00000100, 0b00000101, 0b00000110, 0b00000111, 0b00001000,
      0b00001001, 0b00001010, 0b00001011, 0b00001100, 0b00001101, 0b00001110, 0b00001111] : List Byte).map decoded =
    [(.unimplemented 0b00000000, 1), (.lxiB 0x1234, 3), (.staxB, 1), (.inxB, 1), (.inrB, 1), (.dcrB, 1),
      (.mviB 0x34, 2), (.rlc, 1), (.unimplemented 0b00001000, 1), (.dadB, 1), (.ldaxB, 1), (.dcxB, 1), (.inrC, 1),
      (.dcrC, 1), (.mviC 0x34, 2), (.rrc, 1)] := rfl

theorem test_decode_row1 :
    ([0b00010000, 0b00010001, 0b00010010, 0b00010011, 0b00010100, 0b00010101, 0b00010110, 0b00010111, 0b00011000,
      0b00011001, 0b00011010, 0b00011011, 0b00011100, 0b00011101, 0b00011110, 0b00011111] : List Byte).map decoded =
    [(.unimplemented 0b00010000, 1), (.lxiD 0x1234, 3), (.staxD, 1), (.inxD, 1), (.inrD, 1), (.dcrD, 1),
      (.mviD 0x34, 2), (.ral, 1), (.unimplemented 0b00011000, 1), (.dadD, 1), (.ldaxD, 1), (.dcxD, 1), (.inrE, 1),
      (.dcrE, 1), (.mviE 0x34, 2), (.rar, 1)] := rfl

theorem test_decode_row2 :
    ([0b00100000, 0b00100001, 0b00100010, 0b00100011, 0b00100100, 0b00100101, 0b00100110, 0b00100111, 0b00101000,
      0b00101001, 0b00101010, 0b00101011, 0b00101100, 0b00101101, 0b00101110, 0b00101111] : List Byte).map decoded =
    [(.unimplemented 0b00100000, 1), (.lxiH 0x1234, 3), (.shld 0x1234, 3), (.inxH, 1), (.inrH, 1), (.dcrH, 1),
      (.mviH 0x34, 2), (.unimplemented 0b00100111, 1), (.unimplemented 0b00101000, 1), (.dadH, 1), (.lhld 0x1234, 3),
      (.dcxH, 1), (.inrL, 1), (.dcrL, 1), (.mviL 0x34, 2), (.cma, 1)] := rfl

theorem test_decode_row3 :
    ([0b00110000, 0b00110001, 0b00110010, 0b00110011, 0b00110100, 0b00110101, 0b00110110, 0b00110111, 0b00111000,
      0b00111001, 0b00111010, 0b00111011, 0b00111100, 0b00111101, 0b00111110, 0b00111111] : List Byte).map decoded =
    [(.unimplemented 0b00110000, 1), (.lxiSp 0x1234, 3), (.sta 0x1234, 3), (.inxSp, 1), (.inrM, 1), (.dcrM, 1),
      (.mviM 0x34, 2), (.stc, 1), (.unimplemented 0b00111000, 1), (.dadSp, 1), (.lda 0x1234, 3), (.dcxSp, 1),
      (.inrA, 1), (.dcrA, 1), (.mviA 0x34, 2), (.cmc, 1)] := rfl

theorem test_decode_row4 :
    ([0b01000000, 0b01000001, 0b01000010, 0b01000011, 0b01000100, 0b01000101, 0b01000110, 0b01000111, 0b01001000,
      0b01001001, 0b01001010, 0b01001011, 0b01001100, 0b01001101, 0b01001110, 0b01001111] : List Byte).map decoded =
    [(.movBB, 1), (.movBC, 1), (.movBD, 1), (.movBE, 1), (.movBH, 1), (.movBL, 1), (.movBM, 1), (.movBA, 1),
      (.movCB, 1), (.movCC, 1), (.movCD, 1), (.movCE, 1), (.movCH, 1), (.movCL, 1), (.movCM, 1), (.movCA, 1)] := rfl

theorem test_decode_row5 :
    ([0b01010000, 0b01010001, 0b01010010, 0b01010011, 0b01010100, 0b01010101, 0b01010110, 0b01010111, 0b01011000,
      0b01011001, 0b01011010, 0b01011011, 0b01011100, 0b01011101, 0b01011110, 0b01011111] : List Byte).map decoded =
    [(.movDB, 1), (.movDC, 1), (.movDD, 1), (.movDE, 1), (.movDH, 1), (.movDL, 1), (.movDM, 1), (.movDA, 1),
      (.movEB, 1), (.movEC, 1), (.movED, 1), (.movEE, 1), (.movEH, 1), (.movEL, 1), (.movEM, 1), (.movEA, 1)] := rfl

theorem test_decode_row6 :
    ([0b01100000, 0b01100001, 0b01100010, 0b01100011, 0b01100100, 0b01100101, 0b01100110, 0b01100111, 0b01101000,
      0b01101001, 0b01101010, 0b01101011, 0b01101100, 0b01101101, 0b01101110, 0b01101111] : List Byte).map decoded =
    [(.movHB, 1), (.movHC, 1), (.movHD, 1), (.movHE, 1), (.movHH, 1), (.movHL, 1), (.movHM, 1), (.movHA, 1),
      (.movLB, 1), (.movLC, 1), (.movLD, 1), (.movLE, 1), (.movLH, 1), (.movLL, 1), (.movLM, 1), (.movLA, 1)] := rfl

theorem test_decode_row7 :
    ([0b01110000, 0b01110001, 0b01110010, 0b01110011, 0b01110100, 0b01110101, 0b01110110, 0b01110111, 0b01111000,
      0b01111001, 0b01111010, 0b01111011, 0b01111100, 0b01111101, 0b01111110, 0b01111111] : List Byte).map decoded =
    [(.movMB, 1), (.movMC, 1), (.movMD, 1), (.movME, 1), (.movMH, 1), (.movML, 1), (.hlt, 1), (.movMA, 1),
      (.movAB, 1), (.movAC, 1), (.movAD, 1), (.movAE, 1), (.movAH, 1), (.movAL, 1), (.movAM, 1), (.movAA, 1)] := rfl

theorem test_decode_row8 :
    ([0b10000000, 0b10000001, 0b10000010, 0b10000011, 0b10000100, 0b10000101, 0b10000110, 0b10000111, 0b10001000,
      0b10001001, 0b10001010, 0b10001011, 0b10001100, 0b10001101, 0b10001110, 0b10001111] : List Byte).map decoded =
    [(.addB, 1), (.addC, 1), (.addD, 1), (.addE, 1), (.addH, 1), (.addL, 1), (.addM, 1), (.addA, 1), (.adcB, 1),
      (.adcC, 1), (.adcD, 1), (.adcE, 1), (.adcH, 1), (.adcL, 1), (.adcM, 1), (.adcA, 1)] := rfl

theorem test_decode_row9 :
    ([0b10010000, 0b10010001, 0b10010010, 0b10010011, 0b10010100, 0b10010101, 0b10010110, 0b10010111, 0b10011000,
      0b10011001, 0b10011010, 0b10011011, 0b10011100, 0b10011101, 0b10011110, 0b10011111] : List Byte).map decoded =
    [(.subB, 1), (.subC, 1), (.subD, 1), (.subE, 1), (.subH, 1), (.subL, 1), (.subM, 1), (.subA, 1), (.sbbB, 1),
      (.sbbC, 1), (.sbbD, 1), (.sbbE, 1), (.sbbH, 1), (.sbbL, 1), (.sbbM, 1), (.sbbA, 1)] := rfl

theorem test_decode_rowA :
    ([0b10100000, 0b10100001, 0b10100010, 0b10100011, 0b10100100, 0b10100101, 0b10100110, 0b10100111, 0b10101000,
      0b10101001, 0b10101010, 0b10101011, 0b10101100, 0b10101101, 0b10101110, 0b10101111] : List Byte).map decoded =
    [(.anaB, 1), (.anaC, 1), (.anaD, 1), (.anaE, 1), (.anaH, 1), (.anaL, 1), (.anaM, 1), (.anaA, 1), (.xraB, 1),
      (.xraC, 1), (.xraD, 1), (.xraE, 1), (.xraH, 1), (.xraL, 1), (.xraM, 1), (.xraA, 1)] := rfl

theorem test_decode_rowB :
    ([0b10110000, 0b10110001, 0b10110010, 0b10110011, 0b10110100, 0b10110101, 0b10110110, 0b10110111, 0b10111000,
      0b10111001, 0b10111010, 0b10111011, 0b10111100, 0b10111101, 0b10111110, 0b10111111] : List Byte).map decoded =
    [(.oraB, 1), (.oraC, 1), (.oraD, 1), (.oraE, 1), (.oraH, 1), (.oraL, 1), (.oraM, 1), (.oraA, 1), (.cmpB, 1),
      (.cmpC, 1), (.cmpD, 1), (.cmpE, 1), (.cmpH, 1), (.cmpL, 1), (.cmpM, 1), (.cmpA, 1)] := rfl

theorem test_decode_rowC :
    ([0b11000000, 0b11000001, 0b11000010, 0b11000011, 0b11000100, 0b11000101, 0b11000110, 0b11000111, 0b11001000,
      0b11001001, 0b11001010, 0b11001011, 0b11001100, 0b11001101, 0b11001110, 0b11001111] : List Byte).map decoded =
    [(.unimplemented 0b11000000, 1), (.popB, 1), (.jnz 0x1234, 3), (.jmp 0x1234, 3), (.unimplemented 0b11000100, 1),
      (.pushB, 1), (.adi 0x34, 2), (.unimplemented 0b11000111, 1), (.unimplemented 0b11001000, 1),
      (.unimplemented 0b11001001, 1), (.jz 0x1234, 3), (.unimplemented 0b11001011, 1),
      (.unimplemented 0b11001100, 1), (.unimplemented 0b11001101, 1), (.aci 0x34, 2), (.unimplemented 0b11001111, 1)] := rfl

theorem test_decode_rowD :
    ([0b11010000, 0b11010001, 0b11010010, 0b11010011, 0b11010100, 0b11010101, 0b11010110, 0b11010111, 0b11011000,
      0b11011001, 0b11011010, 0b11011011, 0b11011100, 0b11011101, 0b11011110, 0b11011111] : List Byte).map decoded =
    [(.unimplemented 0b11010000, 1), (.popD, 1), (.jnc 0x1234, 3), (.unimplemented 0b11010011, 1),
      (.unimplemented 0b11010100, 1), (.pushD, 1), (.sui 0x34, 2), (.unimplemented 0b11010111, 1),
      (.unimplemented 0b11011000, 1), (.unimplemented 0b11011001, 1), (.jc 0x1234, 3),
      (.unimplemented 0b11011011, 1), (.unimplemented 0b11011100, 1), (.unimplemented 0b11011101, 1), (.sbi 0x34, 2),
      (.unimplemented 0b11011111, 1)] := rfl

theorem test_decode_rowE :
    ([0b11100000, 0b11100001, 0b11100010, 0b11100011, 0b11100100, 0b11100101, 0b11100110, 0b11100111, 0b11101000,
      0b11101001, 0b11101010, 0b11101011, 0b11101100, 0b11101101, 0b11101110, 0b11101111] : List Byte).map decoded =
    [(.unimplemented 0b11100000, 1), (.popH, 1), (.jpo 0x1234, 3), (.unimplemented 0b11100011, 1),
      (.unimplemented 0b11100100, 1), (.pushH, 1), (.ani 0x34, 2), (.unimplemented 0b11100111, 1),
      (.unimplemented 0b11101000, 1), (.unimplemented 0b11101001, 1), (.jpe 0x1234, 3),
      (.unimplemented 0b11101011, 1), (.unimplemented 0b11101100, 1), (.unimplemented 0b11101101, 1), (.xri 0x34, 2),
      (.unimplemented 0b11101111, 1)] := rfl

theorem test_decode_rowF :
    ([0b11110000, 0b11110001, 0b11110010, 0b11110011, 0b11110100, 0b11110101, 0b11110110, 0b11110111, 0b11111000,
      0b11111001, 0b11111010, 0b11111011, 0b11111100, 0b11111101, 0b11111110, 0b11111111] : List Byte).map decoded =
    [(.unimplemented 0b11110000, 1), (.popPsw, 1), (.jp 0x1234, 3), (.unimplemented 0b11110011, 1),
      (.unimplemented 0b11110100, 1), (.pushPsw, 1), (.ori 0x34, 2), (.unimplemented 0b11110111, 1),
      (.unimplemented 0b11111000, 1), (.unimplemented 0b11111001, 1), (.jm 0x1234, 3),
      (.unimplemented 0b11111011, 1), (.unimplemented 0b11111100, 1), (.unimplemented 0b11111101, 1), (.cpi 0x34, 2),
      (.unimplemented 0b11111111, 1)] := rfl

theorem test_decode_rejects_by_name :
    (decode [], decode [0x3E], decode [0xC3, 0x00]) =
    (.error .noOpcode, .error (.operandMissing 0x3E), .error (.operandMissing 0xC3)) := rfl

/-- Bit 0 of a table word is the lowest bit of the first byte. -/
theorem test_decodeTableWord :
    [decodeTableWord 8 0x76, decodeTableWord 16 0x053E, decodeTableWord 24 0x1234C3, decodeTableWord 8 0x1234C3,
      decodeTableWord 0 0xFF] =
    [some .hlt, some (.mviA 0x05), some (.jmp 0x1234), some (.jmp 0x0000), some (.unimplemented 0xFF)] := rfl

/-! ### One step: vectors of spec/95_test_vectors.md, by their names there -/

/-- The instruction's bytes at PC and up, as the vectors place them. -/
def placed (code : List Byte) (at_ : Word) (s : State) : State :=
  match code with
  | [] => s
  | b :: code => placed code (at_ + 1) (memWrite at_ b s)

/-- What `f` sees of the state one step after `s`, with `code` at PC. -/
def after {α : Type} (code : List Byte) (s : State) (f : State → α) : Option α :=
  match step (placed code s.pc s) with
  | .next t => some (f t)
  | .fault _ => none
  | .refused _ => none

/-- Z, S, P and CY: the flags no vector leaves to AC_RULE. -/
def zspc (t : State) : List Bool := [t.flags.z, t.flags.s, t.flags.p, t.flags.cy]

theorem test_X3_4_ORI_07 : after [0xF6, 0x07] State.reset (fun t => (t.a, t.pc, zspc t)) =
    some (0x07, 0x0002, [false, false, false, false]) := by decide

theorem test_M1_MOV_B_C : after [0x41] { State.reset with c := 0x5A } (fun t => (t.b, t.pc, t.flags)) =
    some (0x5A, 0x0001, ⟨false, false, false, false, false⟩) := by decide

theorem test_M3_MOV_E_M : after [0x5E] (memWrite 0x2010 0xC4 { State.reset with h := 0x20, l := 0x10 })
    (fun t => (t.e, t.pc, t.flags)) =
    some (0xC4, 0x0001, ⟨false, false, false, false, false⟩) := by decide

theorem test_M4_MOV_M_A : after [0x77] { State.reset with a := 0x99, h := 0x12, l := 0x34 }
    (fun t => (t.pc, memRead 0x1234 t, t.flags)) =
    some (0x0001, 0x99, ⟨false, false, false, false, false⟩) := by decide

theorem test_M5_MOV_M_H : after [0x74] { State.reset with h := 0x02 }
    (fun t => (t.pc, memRead 0x0200 t, t.flags)) =
    some (0x0001, 0x02, ⟨false, false, false, false, false⟩) := by decide

theorem test_M6_MOV_L_M : after [0x6E] (memWrite 0x0300 0x7E { State.reset with h := 0x03 })
    (fun t => (t.l, t.pc, t.flags)) =
    some (0x7E, 0x0001, ⟨false, false, false, false, false⟩) := by decide

theorem test_M9_MOV_D_B : after [0x50] { State.reset with b := 0x80, pc := 0xFFFF }
    (fun t => (t.d, t.pc, t.flags)) =
    some (0x80, 0x0000, ⟨false, false, false, false, false⟩) := by decide

theorem test_I2_INR_A : after [0x3C] { State.reset with a := 0xFF, flags := ⟨false, false, false, true, false⟩ }
    (fun t => (t.a, t.pc, zspc t)) =
    some (0x00, 0x0001, [true, false, true, true]) := by decide

theorem test_I3_INR_B : after [0x04] { State.reset with b := 0x7F } (fun t => (t.b, t.pc, zspc t)) =
    some (0x80, 0x0001, [false, true, false, false]) := by decide

theorem test_I5_INR_M : after [0x34] (memWrite 0x0100 0xFF { State.reset with h := 0x01 })
    (fun t => (t.pc, memRead 0x0100 t, zspc t)) =
    some (0x0001, 0x00, [true, false, true, false]) := by decide

theorem test_I6_DCR_A : after [0x3D] State.reset (fun t => (t.a, t.pc, zspc t)) =
    some (0xFF, 0x0001, [false, true, true, false]) := by decide

theorem test_I8_DCR_E : after [0x1D] { State.reset with e := 0x80 } (fun t => (t.e, t.pc, zspc t)) =
    some (0x7F, 0x0001, [false, false, false, false]) := by decide

theorem test_I10_DCR_M : after [0x35] (memWrite 0x3A7C 0x40 { State.reset with h := 0x3A, l := 0x7C })
    (fun t => (t.pc, memRead 0x3A7C t, zspc t)) =
    some (0x0001, 0x3F, [false, false, true, false]) := by decide

theorem test_I12_INX_D : after [0x13] { State.reset with d := 0xFF, e := 0xFF }
    (fun t => (t.d, t.e, t.pc, t.flags)) =
    some (0x00, 0x00, 0x0001, ⟨false, false, false, false, false⟩) := by decide

theorem test_I14_INX_SP : after [0x33] { State.reset with sp := 0xFFFF } (fun t => (t.sp, t.pc, t.flags)) =
    some (0x0000, 0x0001, ⟨false, false, false, false, false⟩) := by decide

theorem test_I15_DCX_B : after [0x0B] State.reset (fun t => (t.b, t.c, t.pc, t.flags)) =
    some (0xFF, 0xFF, 0x0001, ⟨false, false, false, false, false⟩) := by decide

theorem test_I18_DCX_SP : after [0x3B] State.reset (fun t => (t.sp, t.pc, t.flags)) =
    some (0xFFFF, 0x0001, ⟨false, false, false, false, false⟩) := by decide

theorem test_I19_DAD_B : after [0x09] { State.reset with b := 0x33, c := 0x9F, h := 0xA1, l := 0x7B, flags := ⟨true, true, true, false, true⟩ }
    (fun t => (t.h, t.l, t.pc, t.flags)) =
    some (0xD5, 0x1A, 0x0001, ⟨true, true, true, false, true⟩) := by decide

theorem test_I20_DAD_D : after [0x19] { State.reset with e := 0x01, h := 0xFF, l := 0xFF }
    (fun t => (t.h, t.l, t.pc, t.flags)) =
    some (0x00, 0x00, 0x0001, ⟨false, false, false, true, false⟩) := by decide

theorem test_I22_DAD_H : after [0x29] { State.reset with h := 0x12, l := 0x34, flags := ⟨false, false, false, true, false⟩ }
    (fun t => (t.h, t.l, t.pc, t.flags)) =
    some (0x24, 0x68, 0x0001, ⟨false, false, false, false, false⟩) := by decide

theorem test_I23_DAD_SP : after [0x39] { State.reset with sp := 0x1000, l := 0x05 }
    (fun t => (t.h, t.pc, t.flags)) =
    some (0x10, 0x0001, ⟨false, false, false, false, false⟩) := by decide

theorem test_A2_ADD_B : after [0x80] { State.reset with a := 0xFF, b := 0x01 } (fun t => (t.a, t.pc, zspc t)) =
    some (0x00, 0x0001, [true, false, true, true]) := by decide

theorem test_A4_ADD_C : after [0x81] { State.reset with flags := ⟨false, false, false, true, false⟩ }
    (fun t => (t.pc, zspc t)) =
    some (0x0001, [true, false, true, false]) := by decide

theorem test_A5_ADD_M : after [0x86] (memWrite 0x0200 0xF0 { State.reset with a := 0x10, h := 0x02 })
    (fun t => (t.a, t.pc, zspc t)) =
    some (0x00, 0x0001, [true, false, true, true]) := by decide

theorem test_A7_ADC_C : after [0x89] { State.reset with a := 0x42, c := 0x3D, flags := ⟨false, false, false, true, false⟩ }
    (fun t => (t.a, t.pc, zspc t)) =
    some (0x80, 0x0001, [false, true, false, false]) := by decide

theorem test_A8_ADC_B : after [0x88] { State.reset with a := 0xFF, b := 0xFF, flags := ⟨false, false, false, true, false⟩ }
    (fun t => (t.pc, zspc t)) =
    some (0x0001, [false, true, true, true]) := by decide

theorem test_A11_SUB_B : after [0x90] { State.reset with a := 0x05, b := 0x06 }
    (fun t => (t.a, t.pc, zspc t)) =
    some (0xFF, 0x0001, [false, true, true, true]) := by decide

theorem test_A13_SUB_M : after [0x96] (memWrite 0x0200 0x00 { State.reset with h := 0x02 })
    (fun t => (t.pc, zspc t)) =
    some (0x0001, [true, false, true, false]) := by decide

theorem test_A15_SBB_B : after [0x98] { State.reset with flags := ⟨false, false, false, true, false⟩ }
    (fun t => (t.a, t.pc, zspc t)) =
    some (0xFF, 0x0001, [false, true, true, true]) := by decide

theorem test_A16_SBB_B : after [0x98] { State.reset with b := 0xFF, flags := ⟨false, false, false, true, false⟩ }
    (fun t => (t.pc, zspc t)) =
    some (0x0001, [true, false, true, true]) := by decide

theorem test_A17_SBB_M : after [0x9E] (memWrite 0x0200 0x50 { State.reset with a := 0x50, h := 0x02 })
    (fun t => (t.a, t.pc, zspc t)) =
    some (0x00, 0x0001, [true, false, true, false]) := by decide

theorem test_A19_CMP_E : after [0xBB] { State.reset with a := 0x02, e := 0x05 }
    (fun t => (t.a, t.pc, zspc t)) =
    some (0x02, 0x0001, [false, true, false, true]) := by decide

theorem test_A20_CMP_B : after [0xB8] { State.reset with a := 0x77, b := 0x77, flags := ⟨false, false, false, true, false⟩ }
    (fun t => (t.a, t.pc, zspc t)) =
    some (0x77, 0x0001, [true, false, true, false]) := by decide

theorem test_A24_ADI_FF : after [0xC6, 0xFF] { State.reset with a := 0x01 } (fun t => (t.a, t.pc, zspc t)) =
    some (0x00, 0x0002, [true, false, true, true]) := by decide

theorem test_A25_ACI_42 : after [0xCE, 0x42] { State.reset with a := 0x14, flags := ⟨false, false, false, true, false⟩ }
    (fun t => (t.a, t.pc, zspc t)) =
    some (0x57, 0x0002, [false, false, false, false]) := by decide

theorem test_A27_SUI_01 : after [0xD6, 0x01] State.reset (fun t => (t.a, t.pc, zspc t)) =
    some (0xFF, 0x0002, [false, true, true, true]) := by decide

theorem test_A29_SBI_01 : after [0xDE, 0x01] { State.reset with flags := ⟨false, false, false, true, false⟩ }
    (fun t => (t.a, t.pc, zspc t)) =
    some (0xFE, 0x0002, [false, true, false, true]) := by decide

theorem test_A32_CPI_4B : after [0xFE, 0x4B] { State.reset with a := 0x4A } (fun t => (t.a, t.pc, zspc t)) =
    some (0x4A, 0x0002, [false, true, true, true]) := by decide

theorem test_L1_ANA_C : after [0xA1] { State.reset with a := 0xFC, c := 0x0F, flags := ⟨false, false, false, true, false⟩ }
    (fun t => (t.a, t.pc, zspc t)) =
    some (0x0C, 0x0001, [false, false, true, false]) := by decide

theorem test_L2_ANA_A : after [0xA7] { State.reset with flags := ⟨false, false, false, true, false⟩ }
    (fun t => (t.pc, zspc t)) =
    some (0x0001, [true, false, true, false]) := by decide

theorem test_L5_XRA_A : after [0xAF] { State.reset with a := 0x9D, flags := ⟨false, true, false, true, false⟩ }
    (fun t => (t.a, t.pc, zspc t)) =
    some (0x00, 0x0001, [true, false, true, false]) := by decide

theorem test_L7_XRA_M : after [0xAE] (memWrite 0x0200 0x0F { State.reset with a := 0xFF, h := 0x02 })
    (fun t => (t.a, t.pc, zspc t)) =
    some (0xF0, 0x0001, [false, true, true, false]) := by decide

theorem test_L9_ORA_A : after [0xB7] { State.reset with flags := ⟨false, false, false, true, false⟩ }
    (fun t => (t.pc, zspc t)) =
    some (0x0001, [true, false, true, false]) := by decide

theorem test_L10_ORA_M : after [0xB6] (memWrite 0x0200 0x80 { State.reset with a := 0x01, h := 0x02 })
    (fun t => (t.a, t.pc, zspc t)) =
    some (0x81, 0x0001, [false, true, true, false]) := by decide

theorem test_L11_ANI_0F : after [0xE6, 0x0F] { State.reset with a := 0x3A, flags := ⟨false, false, false, true, false⟩ }
    (fun t => (t.a, t.pc, zspc t)) =
    some (0x0A, 0x0002, [false, false, true, false]) := by decide

theorem test_L13_XRI_81 : after [0xEE, 0x81] { State.reset with a := 0x3B } (fun t => (t.a, t.pc, zspc t)) =
    some (0xBA, 0x0002, [false, true, false, false]) := by decide

theorem test_L15_ORI_0F : after [0xF6, 0x0F] { State.reset with a := 0xB5, flags := ⟨false, false, false, true, false⟩ }
    (fun t => (t.a, t.pc, zspc t)) =
    some (0xBF, 0x0002, [false, true, false, false]) := by decide

theorem test_R1_RLC : after [0x07] { State.reset with a := 0xF2 } (fun t => (t.a, t.pc, t.flags)) =
    some (0xE5, 0x0001, ⟨false, false, false, true, false⟩) := by decide

theorem test_R3_RLC : after [0x07] { State.reset with a := 0x80, flags := ⟨true, false, false, false, false⟩ }
    (fun t => (t.a, t.pc, t.flags)) =
    some (0x01, 0x0001, ⟨true, false, false, true, false⟩) := by decide

theorem test_R4_RRC : after [0x0F] { State.reset with a := 0xF2, flags := ⟨false, false, false, true, false⟩ }
    (fun t => (t.a, t.pc, t.flags)) =
    some (0x79, 0x0001, ⟨false, false, false, false, false⟩) := by decide

theorem test_R5_RRC : after [0x0F] { State.reset with a := 0x01 } (fun t => (t.a, t.pc, t.flags)) =
    some (0x80, 0x0001, ⟨false, false, false, true, false⟩) := by decide

theorem test_R6_RAL : after [0x17] { State.reset with a := 0xB5 } (fun t => (t.a, t.pc, t.flags)) =
    some (0x6A, 0x0001, ⟨false, false, false, true, false⟩) := by decide

theorem test_R7_RAL : after [0x17] { State.reset with a := 0x80, flags := ⟨false, false, false, true, false⟩ }
    (fun t => (t.a, t.pc, t.flags)) =
    some (0x01, 0x0001, ⟨false, false, false, true, false⟩) := by decide

theorem test_R9_RAR : after [0x1F] { State.reset with a := 0x6A, flags := ⟨false, false, false, true, false⟩ }
    (fun t => (t.a, t.pc, t.flags)) =
    some (0xB5, 0x0001, ⟨false, false, false, false, false⟩) := by decide

theorem test_R11_RAR : after [0x1F] { State.reset with flags := ⟨true, false, false, true, false⟩ }
    (fun t => (t.a, t.pc, t.flags)) =
    some (0x80, 0x0001, ⟨true, false, false, false, false⟩) := by decide

theorem test_K3_MVI_B_00 : after [0x06, 0x00] { State.reset with b := 0xFF } (fun t => (t.b, t.pc, t.flags)) =
    some (0x00, 0x0002, ⟨false, false, false, false, false⟩) := by decide

theorem test_K4_MVI_M_FF : after [0x36, 0xFF] { State.reset with h := 0x3C, l := 0xF4 }
    (fun t => (t.pc, memRead 0x3CF4 t, t.flags)) =
    some (0x0002, 0xFF, ⟨false, false, false, false, false⟩) := by decide

theorem test_K5_MVI_M_AB : after [0x36, 0xAB] State.reset (fun t => (t.pc, memRead 0x0000 t, t.flags)) =
    some (0x0002, 0xAB, ⟨false, false, false, false, false⟩) := by decide

theorem test_K6_MVI_C_77 : after [0x0E] (memWrite 0x0000 0x77 { State.reset with pc := 0xFFFF })
    (fun t => (t.c, t.pc, t.flags)) =
    some (0x77, 0x0001, ⟨false, false, false, false, false⟩) := by decide

theorem test_K10_LXI_SP_2400 : after [0x31, 0x00, 0x24] State.reset (fun t => (t.sp, t.pc, t.flags)) =
    some (0x2400, 0x0003, ⟨false, false, false, false, false⟩) := by decide

theorem test_K11_LXI_H_wrapped : after [0x21, 0xCD] (memWrite 0x0000 0xAB { State.reset with pc := 0xFFFE })
    (fun t => (t.h, t.l, t.pc, t.flags)) =
    some (0xAB, 0xCD, 0x0001, ⟨false, false, false, false, false⟩) := by decide

theorem test_D2_STA_0002 : after [0x32, 0x02, 0x00] { State.reset with a := 0x99 }
    (fun t => (t.pc, memRead 0x0002 t, t.flags)) =
    some (0x0003, 0x99, ⟨false, false, false, false, false⟩) := by decide

theorem test_D4_LDA_0000 : after [0x3A, 0x00, 0x00] State.reset (fun t => (t.a, t.pc, t.flags)) =
    some (0x3A, 0x0003, ⟨false, false, false, false, false⟩) := by decide

theorem test_D6_SHLD_FFFF : after [0x22, 0xFF, 0xFF] { State.reset with h := 0x12, l := 0x34, pc := 0x0010 }
    (fun t => (t.pc, memRead 0x0000 t, memRead 0xFFFF t, t.flags)) =
    some (0x0013, 0x12, 0x34, ⟨false, false, false, false, false⟩) := by decide

theorem test_D8_LHLD_FFFF : after [0x2A, 0xFF, 0xFF] (memWrite 0xFFFF 0x11 { State.reset with pc := 0x0010 })
    (fun t => (t.l, t.pc, t.flags)) =
    some (0x11, 0x0013, ⟨false, false, false, false, false⟩) := by decide

theorem test_D9_STAX_B : after [0x02] { State.reset with a := 0x9C, b := 0x3F, c := 0x16 }
    (fun t => (t.pc, memRead 0x3F16 t, t.flags)) =
    some (0x0001, 0x9C, ⟨false, false, false, false, false⟩) := by decide

theorem test_D10_STAX_D : after [0x12] { State.reset with a := 0x01, d := 0xFF, e := 0xFF }
    (fun t => (t.pc, memRead 0xFFFF t, t.flags)) =
    some (0x0001, 0x01, ⟨false, false, false, false, false⟩) := by decide

theorem test_D11_LDAX_B : after [0x0A] (memWrite 0x0100 0x66 { State.reset with b := 0x01 })
    (fun t => (t.a, t.pc, t.flags)) =
    some (0x66, 0x0001, ⟨false, false, false, false, false⟩) := by decide

theorem test_D12_LDAX_D : after [0x1A] (memWrite 0x938B 0x4D { State.reset with d := 0x93, e := 0x8B })
    (fun t => (t.a, t.pc, t.flags)) =
    some (0x4D, 0x0001, ⟨false, false, false, false, false⟩) := by decide

theorem test_S1_PUSH_D : after [0xD5] { State.reset with d := 0x8F, e := 0x9D, sp := 0x3A2C }
    (fun t => (t.sp, t.pc, memRead 0x3A2A t, memRead 0x3A2B t, t.flags)) =
    some (0x3A2A, 0x0001, 0x9D, 0x8F, ⟨false, false, false, false, false⟩) := by decide

theorem test_S3_PUSH_B : after [0xC5] { State.reset with b := 0x12, c := 0x34, sp := 0x0001, pc := 0x0100 }
    (fun t => (t.sp, t.pc, memRead 0x0000 t, memRead 0xFFFF t, t.flags)) =
    some (0xFFFF, 0x0101, 0x12, 0x34, ⟨false, false, false, false, false⟩) := by decide

theorem test_S5_PUSH_PSW : after [0xF5] { State.reset with a := 0x1F, sp := 0x502A, flags := ⟨true, false, true, true, false⟩ }
    (fun t => (t.sp, t.pc, memRead 0x5028 t, memRead 0x5029 t, t.flags)) =
    some (0x5028, 0x0001, 0x47, 0x1F, ⟨true, false, true, true, false⟩) := by decide

theorem test_S7_PUSH_PSW : after [0xF5] { State.reset with a := 0xFF, sp := 0x0100, flags := ⟨true, true, true, true, true⟩ }
    (fun t => (t.sp, t.pc, memRead 0x00FE t, memRead 0x00FF t, t.flags)) =
    some (0x00FE, 0x0001, 0xD7, 0xFF, ⟨true, true, true, true, true⟩) := by decide

theorem test_S9_POP_B : after [0xC1] (memWrite 0xFFFF 0xAA { State.reset with sp := 0xFFFF })
    (fun t => (t.b, t.c, t.sp, t.pc, t.flags)) =
    some (0xC1, 0xAA, 0x0001, 0x0001, ⟨false, false, false, false, false⟩) := by decide

theorem test_S11_POP_PSW : after [0xF1] (memWrite 0x2C01 0xFF (memWrite 0x2C00 0xC3 { State.reset with sp := 0x2C00 }))
    (fun t => (t.a, t.sp, t.pc, t.flags)) =
    some (0xFF, 0x2C02, 0x0001, ⟨true, true, false, true, false⟩) := by decide

theorem test_S12_POP_PSW : after [0xF1] (memWrite 0x2C01 0x00 (memWrite 0x2C00 0xFF { State.reset with sp := 0x2C00 }))
    (fun t => (t.sp, t.pc, t.flags)) =
    some (0x2C02, 0x0001, ⟨true, true, true, true, true⟩) := by decide

theorem test_S13_POP_PSW : after [0xF1] (memWrite 0x2C01 0x55 (memWrite 0x2C00 0x28 { State.reset with sp := 0x2C00, flags := ⟨true, true, true, true, true⟩ }))
    (fun t => (t.a, t.sp, t.pc, t.flags)) =
    some (0x55, 0x2C02, 0x0001, ⟨false, false, false, false, false⟩) := by decide

theorem test_J3_JMP_wrapped : after [0xC3, 0x34] (memWrite 0x0000 0x12 { State.reset with pc := 0xFFFE })
    (fun t => (t.pc, t.flags)) =
    some (0x1234, ⟨false, false, false, false, false⟩) := by decide

theorem test_J4_JNZ_1234 : after [0xC2, 0x34, 0x12] State.reset (fun t => (t.pc, t.flags)) =
    some (0x1234, ⟨false, false, false, false, false⟩) := by decide

theorem test_J5_JNZ_1234 : after [0xC2, 0x34, 0x12] { State.reset with flags := ⟨true, false, false, false, false⟩ }
    (fun t => (t.pc, t.flags)) =
    some (0x0003, ⟨true, false, false, false, false⟩) := by decide

theorem test_J6_JZ_1234 : after [0xCA, 0x34, 0x12] State.reset (fun t => (t.pc, t.flags)) =
    some (0x0003, ⟨false, false, false, false, false⟩) := by decide

theorem test_J7_JZ_1234 : after [0xCA, 0x34, 0x12] { State.reset with flags := ⟨true, false, false, false, false⟩ }
    (fun t => (t.pc, t.flags)) =
    some (0x1234, ⟨true, false, false, false, false⟩) := by decide

theorem test_J8_JNC_1234 : after [0xD2, 0x34, 0x12] State.reset (fun t => (t.pc, t.flags)) =
    some (0x1234, ⟨false, false, false, false, false⟩) := by decide

theorem test_J9_JNC_1234 : after [0xD2, 0x34, 0x12] { State.reset with flags := ⟨false, false, false, true, false⟩ }
    (fun t => (t.pc, t.flags)) =
    some (0x0003, ⟨false, false, false, true, false⟩) := by decide

theorem test_J10_JC_1234 : after [0xDA, 0x34, 0x12] State.reset (fun t => (t.pc, t.flags)) =
    some (0x0003, ⟨false, false, false, false, false⟩) := by decide

theorem test_J11_JC_1234 : after [0xDA, 0x34, 0x12] { State.reset with flags := ⟨false, false, false, true, false⟩ }
    (fun t => (t.pc, t.flags)) =
    some (0x1234, ⟨false, false, false, true, false⟩) := by decide

theorem test_J12_JPO_1234 : after [0xE2, 0x34, 0x12] State.reset (fun t => (t.pc, t.flags)) =
    some (0x1234, ⟨false, false, false, false, false⟩) := by decide

theorem test_J13_JPO_1234 : after [0xE2, 0x34, 0x12] { State.reset with flags := ⟨false, false, true, false, false⟩ }
    (fun t => (t.pc, t.flags)) =
    some (0x0003, ⟨false, false, true, false, false⟩) := by decide

theorem test_J14_JPE_1234 : after [0xEA, 0x34, 0x12] State.reset (fun t => (t.pc, t.flags)) =
    some (0x0003, ⟨false, false, false, false, false⟩) := by decide

theorem test_J15_JPE_1234 : after [0xEA, 0x34, 0x12] { State.reset with flags := ⟨false, false, true, false, false⟩ }
    (fun t => (t.pc, t.flags)) =
    some (0x1234, ⟨false, false, true, false, false⟩) := by decide

theorem test_J16_JP_1234 : after [0xF2, 0x34, 0x12] State.reset (fun t => (t.pc, t.flags)) =
    some (0x1234, ⟨false, false, false, false, false⟩) := by decide

theorem test_J17_JP_1234 : after [0xF2, 0x34, 0x12] { State.reset with flags := ⟨false, true, false, false, false⟩ }
    (fun t => (t.pc, t.flags)) =
    some (0x0003, ⟨false, true, false, false, false⟩) := by decide

theorem test_J18_JM_1234 : after [0xFA, 0x34, 0x12] State.reset (fun t => (t.pc, t.flags)) =
    some (0x0003, ⟨false, false, false, false, false⟩) := by decide

theorem test_J19_JM_1234 : after [0xFA, 0x34, 0x12] { State.reset with flags := ⟨false, true, false, false, false⟩ }
    (fun t => (t.pc, t.flags)) =
    some (0x1234, ⟨false, true, false, false, false⟩) := by decide

theorem test_J20_JNZ_1234 : after [0xC2, 0x34, 0x12] { State.reset with pc := 0xFFFD, flags := ⟨true, false, false, false, false⟩ }
    (fun t => (t.pc, t.flags)) =
    some (0x0000, ⟨true, false, false, false, false⟩) := by decide

theorem test_H2_HLT : after [0x76] { State.reset with a := 0x06, pc := 0x0003 }
    (fun t => (t.pc, t.run, t.flags)) =
    some (0x0004, .halted, ⟨false, false, false, false, false⟩) := by decide

theorem test_H3_HLT : after [0x76] { State.reset with pc := 0xFFFF } (fun t => (t.pc, t.run, t.flags)) =
    some (0x0000, .halted, ⟨false, false, false, false, false⟩) := by decide

theorem test_H5_CMA : after [0x2F] { State.reset with a := 0xFF, flags := ⟨false, true, false, false, false⟩ }
    (fun t => (t.a, t.pc, t.flags)) =
    some (0x00, 0x0001, ⟨false, true, false, false, false⟩) := by decide

theorem test_H6_STC : after [0x37] State.reset (fun t => (t.pc, t.flags)) =
    some (0x0001, ⟨false, false, false, true, false⟩) := by decide

theorem test_H8_CMC : after [0x3F] { State.reset with flags := ⟨false, false, false, true, false⟩ }
    (fun t => (t.pc, t.flags)) =
    some (0x0001, ⟨false, false, false, false, false⟩) := by decide

theorem test_H9_CMC : after [0x3F] State.reset (fun t => (t.pc, t.flags)) =
    some (0x0001, ⟨false, false, false, true, false⟩) := by decide

theorem test_U1_NOP : after [0x00] { State.reset with a := 0x11 }
    (fun t => (t.pc, t.run, t.faultOpcode, t.faultPc)) =
    some (0x0000, .faulted, 0x00, 0x0000) := by decide

theorem test_U4_CALL : after [0xCD, 0x00, 0x10] { State.reset with sp := 0x2400 }
    (fun t => (t.sp, t.pc, t.run, t.faultOpcode, t.faultPc)) =
    some (0x2400, 0x0000, .faulted, 0xCD, 0x0000) := by decide

theorem test_U13_undocumented : after [0xDD] { State.reset with pc := 0x1234 }
    (fun t => (t.pc, t.run, t.faultOpcode, t.faultPc)) =
    some (0x1234, .faulted, 0xDD, 0x1234) := by decide

/-- AC_STD8080 on the operands of the vectors I2, I3, I6, I7, A1, A3, A6, A7, A10, A11, A14, A15, A18, A19, L1, L2, L5, L8. -/
theorem test_acStd8080 :
    [Config.acStd8080 .inr 0xFF 0x01 false false,
      Config.acStd8080 .inr 0x7F 0x01 false false,
      Config.acStd8080 .dcr 0x00 0x01 false false,
      Config.acStd8080 .dcr 0x01 0x01 false false,
      Config.acStd8080 .add 0x6C 0x2E false false,
      Config.acStd8080 .add 0x80 0x80 false false,
      Config.acStd8080 .adc 0x42 0x3D false false,
      Config.acStd8080 .adc 0x42 0x3D true false,
      Config.acStd8080 .sub 0x3E 0x3E false false,
      Config.acStd8080 .sub 0x05 0x06 false false,
      Config.acStd8080 .sbb 0x04 0x02 true false,
      Config.acStd8080 .sbb 0x00 0x00 true false,
      Config.acStd8080 .cmp 0x0A 0x05 false false,
      Config.acStd8080 .cmp 0x02 0x05 false false,
      Config.acStd8080 .ana 0xFC 0x0F false false,
      Config.acStd8080 .ana 0x00 0x00 false false,
      Config.acStd8080 .xra 0x9D 0x9D false false,
      Config.acStd8080 .ora 0x33 0x0F false false] =
    [true, true, false, true, true, false, false, true, true,
      false, true, false, true, false, true, false, false, false] := by decide

/-! ### Step, reset, placing an instruction -/

/-- No step is enabled in a terminal state (R31). -/
theorem test_no_step_after_the_end :
    (match step { State.reset with run := .halted } with | .fault f => some f | _ => none) = some .stepWhileHalted ∧
    (match step { State.reset with run := .faulted } with | .fault f => some f | _ => none) = some .stepWhileFaulted := by
  decide

/-- What `f` sees of the state `steps` steps after the reset with `image`. -/
def afterImage {α : Type} (image : List Byte) (steps : Nat) (f : State → α) : Option α :=
  match resetImage image with
  | .next s => go steps s
  | .fault _ => none
  | .refused _ => none
where
  go : Nat → State → Option α
    | 0, s => some (f s)
    | n + 1, s =>
      match step s with
      | .next t => go n t
      | .fault _ => none
      | .refused _ => none

/-- P1, the source's example X6. -/
theorem test_P1_load_increment_halt :
    afterImage [0x3E, 0x05, 0x3C, 0x76] 3 (fun t => (t.a, t.pc, t.run, zspc t)) =
    some (0x06, 0x0004, .halted, [false, false, true, false]) := by decide

/-- P6, the source's example X7. -/
theorem test_P6_unimplemented :
    afterImage [0xFF] 1 (fun t => (t.run, t.faultOpcode, t.faultPc, t.pc)) = some (.faulted, 0xFF, 0x0000, 0x0000) := by decide

/-- X8: an empty image is rejected. -/
theorem test_empty_image : (match resetImage [] with | .fault f => some f | _ => none) = some .emptyImage := by decide

theorem test_image_is_loaded_from_0 :
    (match resetImage [0x11, 0x00, 0x22] with | .next s => some s.mem | _ => none) = some [(0, 0x11), (2, 0x22)] := by decide

/-- Writing 00 removes the entry, and addresses rise. -/
theorem test_memory_is_canonical :
    Memory.write (Memory.write (Memory.write [] 5 0x01) 3 0x02) 5 0x00 = [(3, 0x02)] ∧
    Memory.write (Memory.write [] 5 0x01) 3 0x02 = [(3, 0x02), (5, 0x01)] ∧ Memory.wf [(5, 0x01), (3, 0x02)] = false ∧
    Memory.wf [(3, 0x00)] = false ∧ Memory.wf [(65536, 0x01)] = false := by decide

/-- J1: the placed word is the next instruction. -/
theorem test_withFetchWord :
    (match step (State.reset.withFetchWord 24 0x1234C3) with | .next t => some t.pc | _ => none) = some 0x1234 := by decide

/-- `status` and `trace` (R6, R183). -/
theorem test_host_reads :
    statusEvent { State.reset with run := .faulted, faultOpcode := 0xFF, faultPc := 0x0010 } = (.faulted, 0xFF, 0x0010) ∧
    traceEvent (memWrite 0x0000 0x76 State.reset) = (0x0000, 0x76) := by decide

/-! ### Witnesses: a state and operands that meet the hypotheses of each obligation that has some -/

/-- RUN at RUNNING, the bytes at 0000 and up, A as given. -/
def sample (code : List Byte) (a : Byte) : State := placed code 0x0000 { State.reset with a := a }

theorem witness_DecodeOfEncodeIsTheInstruction :
    (Instr.jm 0xFFFF).wellFormed = true ∧ (Instr.unimplemented 0xFF).wellFormed = true := by decide

theorem witness_EncodeOfDecodeIsTheBytes : decode [0x31, 0x00, 0x24, 0x76] = .ok (.lxiSp 0x2400, [0x76]) := rfl

/-- One opcode of each length. -/
theorem witness_LengthFollowsFromTheOpcode :
    ∀ opcode ∈ [(0x76 : Byte), 0x3E, 0xC3], opcode ∉ unimplementedOpcodes := by decide

theorem witness_StepRunsTheDecodedInstruction :
    (sample [0x3E, 0x05] 0x00).run = .running ∧
    decode [memRead 0x0000 (sample [0x3E, 0x05] 0x00), memRead 0x0001 (sample [0x3E, 0x05] 0x00),
      memRead 0x0002 (sample [0x3E, 0x05] 0x00)] = .ok (.mviA 0x05, [0x00]) := ⟨rfl, rfl⟩

/-- Each clause: halted, faulted, and running on HLT, on an unimplemented byte and on another. -/
theorem witness_RunStateTransitions :
    ({ State.reset with run := .halted } : State).run = .halted ∧
    ({ State.reset with run := .faulted } : State).run = .faulted ∧
    (sample [0x76] 0x00).run = .running ∧ memRead 0x0000 (sample [0x76] 0x00) = 0x76 ∧
    (sample [0xFF] 0x00).run = .running ∧ memRead 0x0000 (sample [0xFF] 0x00) ∈ unimplementedOpcodes ∧
    (sample [0x3C] 0x00).run = .running ∧ memRead 0x0000 (sample [0x3C] 0x00) ≠ 0x76 ∧
    memRead 0x0000 (sample [0x3C] 0x00) ∉ unimplementedOpcodes := by decide

/-- Images of the least and the greatest length. -/
theorem witness_RunStateTransitions_image :
    (1 ≤ [(0x76 : Byte)].length ∧ [(0x76 : Byte)].length ≤ 65536) ∧
    (1 ≤ (List.replicate 65536 (0x76 : Byte)).length ∧ (List.replicate 65536 (0x76 : Byte)).length ≤ 65536) := by
  simp only [List.length_replicate, List.length_cons, List.length_nil]
  omega

theorem witness_UnimplementedOpcodeFaults :
    (0xFF : Byte) ∈ unimplementedOpcodes ∧ (0x00 : Byte) ∈ unimplementedOpcodes ∧
    (sample [0xFF] 0x00).run = .running ∧ memRead (sample [0xFF] 0x00).pc (sample [0xFF] 0x00) ∈ unimplementedOpcodes := by
  decide

theorem witness_FaultRecordIsWrittenByTheFaultOnly :
    (sample [0x27] 0x00).run = .running ∧ memRead 0x0000 (sample [0x27] 0x00) ∈ unimplementedOpcodes ∧
    (sample [0x3C] 0x00).run = .running ∧ memRead 0x0000 (sample [0x3C] 0x00) ∉ unimplementedOpcodes := by decide

/-- A step that goes on, one that halts and one that faults, each from a state with the invariant. -/
theorem witness_StepKeepsTheInvariant :
    (∀ code ∈ [[(0x32 : Byte), 0x00, 0x01], [0x76], [0xFF]], Memory.wf (sample code 0x05).mem = true ∧
      (sample code 0x05).inte = false ∧ runConsistent (sample code 0x05) = true) ∧
    (∃ t, step (sample [0x32, 0x00, 0x01] 0x05) = .next t ∧ t.run = .running) ∧
    (∃ t, step (sample [0x76] 0x05) = .next t ∧ t.run = .halted) ∧
    (∃ t, step (sample [0xFF] 0x05) = .next t ∧ t.run = .faulted) :=
  ⟨by decide, ⟨_, rfl, rfl⟩, ⟨_, rfl, rfl⟩, ⟨_, rfl, rfl⟩⟩

theorem witness_InvariantAfterResetOfAnImage : ∃ s, resetImage [0x3E, 0x05] = .next s := ⟨_, rfl⟩

theorem witness_FlagsOutsideTheTableRowAreKept : FlagName.cy ∉ flagsWritten .inrM ∧ FlagName.z ∉ flagsWritten .dadB := by decide

theorem witness_AuxCarryIsReadByPushPswOnly : Instr.movBB ≠ .pushPsw ∧ Instr.popPsw ≠ .pushPsw := by decide

theorem witness_StackPointerWriters : writesSp .stc = false ∧ writesSp (.lxiB 0x0000) = false := by decide

theorem witness_RegistersAreWrittenByDestinationOnly : Reg8.a ∉ registersWritten .cmpB ∧ Reg8.b ∉ registersWritten .movAB := by
  decide

/-- The neighbours of the byte stored, at the top of memory and across the wrap. -/
theorem witness_MemoryIsWrittenAtStoreAddressesOnly :
    (0x0000 : Word) ∉ storeAddresses (.sta 0xFFFF) State.reset ∧ (0xFFFE : Word) ∉ storeAddresses (.sta 0xFFFF) State.reset ∧
    (0x0001 : Word) ∉ storeAddresses (.shld 0xFFFF) State.reset ∧ (0x0000 : Word) ∉ storeAddresses .pushB State.reset := by
  decide

/-- The operand at FF and at 00, in a register and in memory. -/
theorem witness_IncrementThenDecrementRestores :
    opnd8 (.reg .a) (sample [] 0xFF) = 0xFF ∧ opnd8 (.reg .a) (sample [] 0x00) = 0x00 ∧
    opnd8 .m (sample [0xFF] 0x00) = 0xFF ∧ opnd8 .m (sample [0x00] 0x00) = 0x00 := by decide

theorem witness_LoadImmediatePair : Rp16.hl ≠ .sp := by decide

theorem witness_PairsComposeTwoRegisters :
    ∀ x ∈ [(Pair.bc, Reg8.b, Reg8.c), (.de, .d, .e), (.hl, .h, .l)],
      x ∈ [(Pair.bc, Reg8.b, Reg8.c), (.de, .d, .e), (.hl, .h, .l)] := by decide

theorem witness_MemoryReadAfterWrite : (0x0000 : Word) ≠ 0xFFFF := by decide

theorem witness_CanonicalMemoriesAreEqualWhenReadAlike :
    Memory.wf [(3, 0x02), (65535, 0x01)] = true ∧
    ∀ addr : Word, Memory.read [(3, 0x02), (65535, 0x01)] addr.toNat = Memory.read [(3, 0x02), (65535, 0x01)] addr.toNat :=
  ⟨by decide, fun _ => rfl⟩

/-- STA of the address behind it, with A = 76 and with A = 00. -/
theorem witness_StoreIsSeenByTheNextFetch :
    ∀ a ∈ [(0x76 : Byte), 0x00], (sample [0x32, 0x03, 0x00] a).run = .running ∧
      memRead (sample [0x32, 0x03, 0x00] a).pc (sample [0x32, 0x03, 0x00] a) = 0x32 ∧
      memRead ((sample [0x32, 0x03, 0x00] a).pc + 1) (sample [0x32, 0x03, 0x00] a) =
        lowByte ((sample [0x32, 0x03, 0x00] a).pc + 3) ∧
      memRead ((sample [0x32, 0x03, 0x00] a).pc + 2) (sample [0x32, 0x03, 0x00] a) =
        highByte ((sample [0x32, 0x03, 0x00] a).pc + 3) ∧
      (sample [0x32, 0x03, 0x00] a).a = a := by decide

/-- The same with the instruction across the top of memory. -/
theorem witness_StoreIsSeenByTheNextFetch_wrapped :
    ∀ s ∈ [placed [0x32, 0x01, 0x00] 0xFFFE { State.reset with pc := 0xFFFE, a := 0x76 }],
      s.run = .running ∧ memRead s.pc s = 0x32 ∧ memRead (s.pc + 1) s = lowByte (s.pc + 3) ∧
      memRead (s.pc + 2) s = highByte (s.pc + 3) ∧ s.a = 0x76 := by decide

theorem witness_ResetLoadsTheImage :
    65536 < (List.replicate 65537 (0x00 : Byte)).length ∧
    (1 ≤ [(0x76 : Byte)].length ∧ [(0x76 : Byte)].length ≤ 65536) ∧
    (1 ≤ (List.replicate 65536 (0x76 : Byte)).length ∧ (List.replicate 65536 (0x76 : Byte)).length ≤ 65536) := by
  simp only [List.length_replicate, List.length_cons, List.length_nil]
  omega

theorem witness_PlacedInstructionIsTheNextStep :
    decodeTableWord 24 0x240031 = some (.lxiSp 0x2400) ∧ decodeTableWord 8 0x00 = some (.unimplemented 0x00) := ⟨rfl, rfl⟩

end Sys2Proof.Machine
end

section
/-! PROOFS. Decoding at PC: the three bytes a fetch looks at, and which instruction an opcode byte selects. -/

namespace Sys2Proof.Machine

/-! ### The opcode map, byte by byte -/

/-- A property of every byte, from its 256 literals. -/
theorem forall_byte_of_forall_lt {P : Byte → Prop} (h : ∀ n < 256, P (BitVec.ofNat 8 n)) (b : Byte) : P b := by
  simpa using h b.toNat b.isLt

/-- The map of R70 against the patterns of R61: the instruction an opcode byte selects has that opcode byte. -/
@[simp] theorem decodeOpcode_form_opcode (opcode d8 : Byte) (d16 : Word) :
    (decodeOpcode opcode d8 d16).form.opcode = opcode := by
  revert opcode
  refine forall_byte_of_forall_lt fun n hn => ?_
  interval_cases n <;> rfl

/-- The map leaves out no byte but the 48 of R168. -/
theorem decodeOpcode_wellFormed (opcode d8 : Byte) (d16 : Word) : (decodeOpcode opcode d8 d16).wellFormed = true := by
  revert opcode
  refine forall_byte_of_forall_lt fun n hn => ?_
  interval_cases n <;> rfl

/-- The map leaves out each of the 48 bytes of R168. -/
theorem decodeOpcode_of_mem_unimplementedOpcodes (d8 : Byte) (d16 : Word) :
    ∀ opcode ∈ unimplementedOpcodes, decodeOpcode opcode d8 d16 = .unimplemented opcode := by
  simp only [unimplementedOpcodes, List.cons_append, List.nil_append, List.forall_mem_cons, List.not_mem_nil,
    false_imp_iff, implies_true, and_true]
  and_intros <;> rfl

theorem eq_unimplemented_of_form {i : Instr} {opcode : Byte} (h : i.form = .unimplemented opcode) :
    i = .unimplemented opcode := by
  cases i <;> cases h
  rfl

/-- A byte outside the 48 selects an implemented instruction. -/
theorem decodeOpcode_form_ne_unimplemented {opcode : Byte} (h : opcode ∉ unimplementedOpcodes) (d8 : Byte) (d16 : Word)
    (b : Byte) : (decodeOpcode opcode d8 d16).form ≠ .unimplemented b := by
  intro hform
  have hb : b = opcode := by simpa [hform, Form.opcode] using decodeOpcode_form_opcode opcode d8 d16
  have hwf := decodeOpcode_wellFormed opcode d8 d16
  rw [eq_unimplemented_of_form hform, hb] at hwf
  exact h (List.contains_iff_mem.mp hwf)

/-- Only the byte 76 selects HLT. -/
theorem decodeOpcode_form_ne_hlt {opcode : Byte} (h : opcode ≠ 0x76) (d8 : Byte) (d16 : Word) :
    (decodeOpcode opcode d8 d16).form ≠ .hlt := by
  intro hform
  exact h (by simpa [hform, Form.opcode] using (decodeOpcode_form_opcode opcode d8 d16).symm)

/-! ### The bytes at PC -/

/-- Three bytes always hold an instruction: the one their opcode byte selects (R69, R74). -/
theorem decode_three_bytes (opcode low high : Byte) :
    ∃ rest, decode [opcode, low, high] = .ok (decodeOpcode opcode low (joinBytes high low), rest) := by
  cases h : opcodeEntry opcode <;> simp [decode, decodeOpcode, h]

/-- The step fetches the instruction that the decoder reads from the three bytes at PC. -/
theorem fetchInstr_eq_of_decode {s : State} {i : Instr} {rest : List Byte}
    (h : decode [memRead s.pc s, memRead (s.pc + 1) s, memRead (s.pc + 2) s] = .ok (i, rest)) : fetchInstr s = i := by
  obtain ⟨rest', hdecode⟩ := decode_three_bytes (memRead s.pc s) (memRead (s.pc + 1) s) (memRead (s.pc + 2) s)
  rw [hdecode] at h
  exact (Prod.mk.inj (Except.ok.inj h)).1

/-- Settles O6: the instruction fetched is the one decoded, and a step in RUNNING executes it. -/
theorem stepRunsTheDecodedInstruction : Obligations.StepRunsTheDecodedInstruction := by
  intro s i rest hrun hdecode
  rw [step_running hrun, fetchInstr_eq_of_decode hdecode]

end Sys2Proof.Machine
end

section
/-! PROOFS. An instruction placed by `withFetchWord` stands where the next step fetches. -/

namespace Sys2Proof.Machine

/-- A byte read after a byte write (R40, R41). -/
theorem memRead_memWrite (addr other : Word) (v : Byte) (s : State) :
    memRead other (memWrite addr v s) = if other = addr then v else memRead other s := by
  simp [memRead, Memory.read_write, toNat_inj]

@[simp] theorem withFetchWord_pc (s : State) (nbits w : Nat) : (s.withFetchWord nbits w).pc = s.pc := rfl
@[simp] theorem withFetchWord_run (s : State) (nbits w : Nat) : (s.withFetchWord nbits w).run = .running := rfl

/-- The three bytes at PC are those of the word placed, also where they lie across the top of memory. -/
theorem bytesAtPc_withFetchWord (s : State) (nbits w : Nat) :
    [memRead s.pc (s.withFetchWord nbits w), memRead (s.pc + 1) (s.withFetchWord nbits w),
      memRead (s.pc + 2) (s.withFetchWord nbits w)] =
    [(tableWord nbits w).extractLsb' 0 8, (tableWord nbits w).extractLsb' 8 8, (tableWord nbits w).extractLsb' 16 8] := by
  have h01 : s.pc ≠ s.pc + 1 := by simp
  have h02 : s.pc ≠ s.pc + 2 := by simp
  have h12 : s.pc + 1 ≠ s.pc + 2 := by simp
  simp only [State.withFetchWord, memRead_memWrite, h01, h02, h12, if_true, if_false]

theorem decode_of_decodeTableWord {nbits w : Nat} {i : Instr} (h : decodeTableWord nbits w = some i) :
    ∃ rest, decode [(tableWord nbits w).extractLsb' 0 8, (tableWord nbits w).extractLsb' 8 8,
      (tableWord nbits w).extractLsb' 16 8] = .ok (i, rest) := by
  unfold decodeTableWord at h
  dsimp only at h
  split at h
  · next j rest hdecode => exact ⟨rest, Option.some.inj h ▸ hdecode⟩
  · cases h

/-- Settles O59: the bytes at PC are the bytes placed, and a step executes what they decode to. -/
theorem placedInstructionIsTheNextStep : Obligations.PlacedInstructionIsTheNextStep := by
  intro s nbits w i h
  obtain ⟨rest, hdecode⟩ := decode_of_decodeTableWord h
  rw [← bytesAtPc_withFetchWord s] at hdecode
  exact stepRunsTheDecodedInstruction _ i rest (withFetchWord_run s nbits w) hdecode

end Sys2Proof.Machine
end

section
/-! PROOFS. PC and RUN after an instruction, by its form. -/

namespace Sys2Proof.Machine

/-! ### Accumulator operations, rotates and jumps seen from PC and RUN -/

@[simp] theorem aluEffect_pc (op : AluOp) (b : Byte) (s : State) : (aluEffect op b s).pc = s.pc := by cases op <;> rfl
@[simp] theorem aluEffect_run (op : AluOp) (b : Byte) (s : State) : (aluEffect op b s).run = s.run := by
  cases op <;> rfl
@[simp] theorem rotateEffect_pc (op : RotateOp) (s : State) : (rotateEffect op s).pc = s.pc + 1 := by cases op <;> rfl
@[simp] theorem rotateEffect_run (op : RotateOp) (s : State) : (rotateEffect op s).run = s.run := by cases op <;> rfl
@[simp] theorem jumpIf_pc (taken : Bool) (target : Word) (s : State) :
    (jumpIf taken target s).pc = if taken then target else s.pc + 3 := by cases taken <;> rfl
@[simp] theorem jumpIf_run (taken : Bool) (target : Word) (s : State) : (jumpIf taken target s).run = s.run := by
  cases taken <;> rfl

/-! ### PC -/

/-- An instruction has as many bytes as its form. -/
theorem length_eq_bytes (i : Instr) : i.length = Laws.EncodedLength.bytes i.form := by
  unfold Instr.length encode
  cases i.form <;> rfl

/-- Where PC stands after a form: at the target of a jump taken, on an unimplemented opcode (D10), and else past the form's
bytes (R16, R17; of HLT too, D9). -/
def pcAfter (f : Form) (s : State) : Word :=
  match f with
  | .jmp a16 => a16
  | .jcc ccc a16 => if condition ccc s.flags then a16 else s.pc + 3
  | .unimplemented _ => s.pc
  | f => s.pc + BitVec.ofNat 16 (Laws.EncodedLength.bytes f)

theorem applyForm_pc (f : Form) (s : State) : (applyForm f s).pc = pcAfter f s := by
  cases f with
  | jmp a16 => exact jumpIf_pc true a16 s
  | jcc ccc a16 => exact jumpIf_pc (condition ccc s.flags) a16 s
  | unimplemented opcode => rfl
  | _ =>
    simp [applyForm, pcAfter, Laws.EncodedLength.bytes, mov, inr, dcr, inx, dcx, dad, mvi, lxi, sta, lda, shld, lhld,
      stax, ldax, push, pop, hlt, cma, stc, cmc]

/-- Settles O19, by the form of the instruction. -/
theorem programCounterAfterAnInstruction : Obligations.ProgramCounterAfterAnInstruction := by
  intro i s
  refine ⟨applyForm i.form s, exec_eq_applyForm i s, ?_⟩
  rw [applyForm_pc, length_eq_bytes]
  cases i.form <;> rfl

/-! ### RUN -/

/-- RUN after a form, run in RUNNING (R31, R160, R172). -/
def runAfter (f : Form) : RunState :=
  match f with
  | .hlt => .halted
  | .unimplemented _ => .faulted
  | _ => .running

theorem applyForm_run (f : Form) {s : State} (h : s.run = .running) : (applyForm f s).run = runAfter f := by
  cases f with
  | hlt => rfl
  | unimplemented opcode => rfl
  | _ =>
    simp [applyForm, runAfter, h, mov, inr, dcr, inx, dcx, dad, mvi, lxi, sta, lda, shld, lhld, stax, ldax, push, pop,
      cma, stc, cmc]

theorem runAfter_eq_running {f : Form} (hhlt : f ≠ .hlt) (hun : ∀ b, f ≠ .unimplemented b) : runAfter f = .running := by
  cases f with
  | hlt => exact absurd rfl hhlt
  | unimplemented b => exact absurd rfl (hun b)
  | _ => rfl

/-- RUN after the instruction an opcode byte selects depends on that byte alone. -/
theorem runAfter_decodeOpcode (opcode d8 : Byte) (d16 : Word) :
    runAfter (decodeOpcode opcode d8 d16).form =
      if opcode = 0x76 then .halted else if opcode ∈ unimplementedOpcodes then .faulted else .running := by
  by_cases hhlt : opcode = 0x76
  · subst hhlt
    rfl
  · rw [if_neg hhlt]
    by_cases hun : opcode ∈ unimplementedOpcodes
    · rw [if_pos hun, decodeOpcode_of_mem_unimplementedOpcodes d8 d16 opcode hun]
      rfl
    · rw [if_neg hun]
      exact runAfter_eq_running (decodeOpcode_form_ne_hlt hhlt d8 d16) (decodeOpcode_form_ne_unimplemented hun d8 d16)

/-- A step from RUNNING answers the state in which the form fetched leaves the machine. -/
theorem step_of_running {s : State} (h : s.run = .running) : step s = .next (applyForm (fetchInstr s).form s) :=
  (step_running h).trans (exec_eq_applyForm _ s)

/-- An image of 1 to 65,536 bytes is accepted (R191 to R193). -/
theorem resetImage_of_fits {image : List Byte} (hpos : 1 ≤ image.length) (hfits : image.length ≤ 65536) :
    resetImage image = .next { State.reset with mem := Memory.ofImage 0 image } := by
  have hne : image.length ≠ 0 := by omega
  have hle : ¬ Memory.size < image.length := by simp only [Memory.size]; omega
  simp only [resetImage, hne, hle, if_false]

/-- Settles O7: `step` stops by name in HALTED and FAULTED; in RUNNING it applies the form fetched, whose effect on RUN the
opcode byte decides; an image that fits is accepted. -/
theorem runStateTransitions : Obligations.RunStateTransitions := by
  refine ⟨fun s => ⟨fun h => ?_, fun h => ?_, fun h => ?_⟩, fun image hpos hfits => ?_⟩
  · simp [step, stepStop, h]
  · simp [step, stepStop, h]
  · exact ⟨_, step_of_running h, (applyForm_run _ h).trans (runAfter_decodeOpcode _ _ _)⟩
  · exact ⟨_, resetImage_of_fits hpos hfits, rfl⟩

end Sys2Proof.Machine
end

section
/-! PROOFS. AC and INTE are handed through: what a form does in a state with other values of them (R21, R30). -/

namespace Sys2Proof.Machine

/-- The state with AC and INTE at the values given. -/
def withAcInte (ac inte : Bool) (s : State) : State := { s with flags := { s.flags with ac := ac }, inte := inte }

theorem withAcInte_self (s : State) : withAcInte s.flags.ac s.inte s = s := rfl

/-! ### The operands do not depend on AC and INTE, and a write leaves them alone -/

@[simp] theorem opnd8_withAcInte (ac inte : Bool) (o : Operand8) (s : State) :
    opnd8 o (withAcInte ac inte s) = opnd8 o s := by
  cases o with
  | reg r => cases r <;> rfl
  | m => rfl

@[simp] theorem wr8_withAcInte (ac inte : Bool) (o : Operand8) (v : Byte) (s : State) :
    wr8 o v (withAcInte ac inte s) = withAcInte ac inte (wr8 o v s) := by
  cases o with
  | reg r => cases r <;> rfl
  | m => rfl

@[simp] theorem getRp16_withAcInte (ac inte : Bool) (p : Rp16) (s : State) :
    getRp16 p (withAcInte ac inte s) = getRp16 p s := by cases p <;> rfl

@[simp] theorem setRp16_withAcInte (ac inte : Bool) (p : Rp16) (v : Word) (s : State) :
    setRp16 p v (withAcInte ac inte s) = withAcInte ac inte (setRp16 p v s) := by cases p <;> rfl

@[simp] theorem condition_withAcInte (ac inte : Bool) (ccc : Cond) (s : State) :
    condition ccc (withAcInte ac inte s).flags = condition ccc s.flags := by cases ccc <;> rfl

/-! ### AC after a form -/

/-- The `kind` under which AC_RULE sees an accumulator operation (R28). -/
def aluKind (op : AluOp) : AcKind :=
  match op with
  | .add => .add
  | .adc => .adc
  | .sub => .sub
  | .sbb => .sbb
  | .ana => .ana
  | .xra => .xra
  | .ora => .ora
  | .cmp => .cmp

/-- The carry-in AC_RULE sees: CY for ADC and SBB, else 0 (R28). -/
def aluCarryIn (op : AluOp) (s : State) : Bool :=
  match op with
  | .adc => s.flags.cy
  | .sbb => s.flags.cy
  | _ => false

/-- AC after a form, run with AC at `ac` (R21, R28). -/
def acAfter (f : Form) (ac : Bool) (s : State) : Bool :=
  match f with
  | .inr o => Config.acRule .inr (opnd8 o s) 0x01 false ac
  | .dcr o => Config.acRule .dcr (opnd8 o s) 0x01 false ac
  | .alu op src => Config.acRule (aluKind op) s.a (opnd8 src s) (aluCarryIn op s) ac
  | .aluImm op d8 => Config.acRule (aluKind op) s.a d8 (aluCarryIn op s) ac
  | .pop .psw => (unpackFlags (popLow s)).ac
  | _ => ac

theorem aluEffect_withAcInte (ac inte : Bool) (op : AluOp) (b : Byte) (s : State) :
    aluEffect op b (withAcInte ac inte s) =
      withAcInte (Config.acRule (aluKind op) s.a b (aluCarryIn op s) ac) inte (aluEffect op b s) := by
  cases op <;> rfl

/-- Run with other values of AC and INTE, a form other than PUSH PSW does the same to everything else; PUSH PSW, which
stores AC, does so for another INTE. -/
theorem applyForm_withAcInte {f : Form} {ac : Bool} {s : State} (inte : Bool) (h : f = .push .psw → ac = s.flags.ac) :
    applyForm f (withAcInte ac inte s) = withAcInte (acAfter f ac s) inte (applyForm f s) := by
  cases f with
  | mov dst src => simp only [applyForm, mov, opnd8_withAcInte, wr8_withAcInte]; rfl
  | inr o => simp only [applyForm, inr, opnd8_withAcInte, wr8_withAcInte]; rfl
  | dcr o => simp only [applyForm, dcr, opnd8_withAcInte, wr8_withAcInte]; rfl
  | inx p => simp only [applyForm, inx, getRp16_withAcInte, setRp16_withAcInte]; rfl
  | dcx p => simp only [applyForm, dcx, getRp16_withAcInte, setRp16_withAcInte]; rfl
  | dad p => cases p <;> rfl
  | alu op src => simp only [applyForm, opnd8_withAcInte, aluEffect_withAcInte]; rfl
  | aluImm op d8 => simp only [applyForm, aluEffect_withAcInte]; rfl
  | rotate op => cases op <;> rfl
  | mvi dst d8 => simp only [applyForm, mvi, wr8_withAcInte]; rfl
  | lxi p d16 => simp only [applyForm, lxi, setRp16_withAcInte]; rfl
  | stax p => cases p <;> rfl
  | ldax p => cases p <;> rfl
  | push p =>
    cases p with
    | psw => rw [h rfl]; rfl
    | _ => rfl
  | pop p => cases p <;> rfl
  | jcc ccc a16 =>
    simp only [applyForm, condition_withAcInte]
    cases condition ccc s.flags <;> rfl
  | _ => rfl

/-- A form run in a state with the AC and INTE it has: AC becomes `acAfter`, INTE stays. -/
theorem applyForm_ac_inte (f : Form) (s : State) :
    (applyForm f s).flags.ac = acAfter f s.flags.ac s ∧ (applyForm f s).inte = s.inte := by
  have h := applyForm_withAcInte (f := f) (s := s) s.inte fun _ => rfl
  rw [withAcInte_self] at h
  exact ⟨congrArg (·.flags.ac) h, congrArg (·.inte) h⟩

@[simp] theorem applyForm_ac (f : Form) (s : State) : (applyForm f s).flags.ac = acAfter f s.flags.ac s :=
  (applyForm_ac_inte f s).1

@[simp] theorem applyForm_inte (f : Form) (s : State) : (applyForm f s).inte = s.inte :=
  (applyForm_ac_inte f s).2

/-- Settles O10: FB and F3 decode to unimplemented opcodes, and every form hands INTE through. -/
theorem interruptLatchIsInert : Obligations.InterruptLatchIsInert := by
  refine ⟨rfl, fun _ => rfl, fun _ => rfl, fun i s v => ?_⟩
  refine ⟨applyForm i.form s, exec_eq_applyForm i s, applyForm_inte i.form s, ?_⟩
  have h := applyForm_withAcInte (f := i.form) (s := s) v fun _ => rfl
  rw [← applyForm_ac] at h
  exact (exec_eq_applyForm i _).trans (congrArg Host.Outcome.next h)

theorem form_eq_push_psw {i : Instr} (h : i.form = .push .psw) : i = .pushPsw := by
  cases i <;> cases h
  rfl

/-- Settles O15: a form other than PUSH PSW, run with another AC, differs in AC alone. -/
theorem auxCarryIsReadByPushPswOnly : Obligations.AuxCarryIsReadByPushPswOnly := by
  intro i s ac hi
  refine ⟨_, _, exec_eq_applyForm i s, exec_eq_applyForm i _, ?_⟩
  have hpush : i.form = .push .psw → ac = s.flags.ac := fun h => absurd (form_eq_push_psw h) hi
  have h := applyForm_withAcInte s.inte hpush
  rw [show { s with flags := { s.flags with ac := ac } } = withAcInte ac s.inte s from rfl, h, ← applyForm_inte i.form]
  rfl

end Sys2Proof.Machine
end

section
/-! PROOFS. The fault record and the invariant of the machine (R30 to R35). -/

namespace Sys2Proof.Machine

/-! ### What a form does to the fault record and to the form of memory

The accumulator operations and the rotates write A and flags, a jump PC, and nothing else. -/

@[simp] theorem aluEffect_sp (op : AluOp) (b : Byte) (s : State) : (aluEffect op b s).sp = s.sp := by cases op <;> rfl
@[simp] theorem aluEffect_mem (op : AluOp) (b : Byte) (s : State) : (aluEffect op b s).mem = s.mem := by cases op <;> rfl
@[simp] theorem aluEffect_inte (op : AluOp) (b : Byte) (s : State) : (aluEffect op b s).inte = s.inte := by
  cases op <;> rfl
@[simp] theorem aluEffect_faultOpcode (op : AluOp) (b : Byte) (s : State) :
    (aluEffect op b s).faultOpcode = s.faultOpcode := by cases op <;> rfl
@[simp] theorem aluEffect_faultPc (op : AluOp) (b : Byte) (s : State) : (aluEffect op b s).faultPc = s.faultPc := by
  cases op <;> rfl
@[simp] theorem rotateEffect_sp (op : RotateOp) (s : State) : (rotateEffect op s).sp = s.sp := by cases op <;> rfl
@[simp] theorem rotateEffect_mem (op : RotateOp) (s : State) : (rotateEffect op s).mem = s.mem := by cases op <;> rfl
@[simp] theorem rotateEffect_faultOpcode (op : RotateOp) (s : State) :
    (rotateEffect op s).faultOpcode = s.faultOpcode := by cases op <;> rfl
@[simp] theorem rotateEffect_faultPc (op : RotateOp) (s : State) : (rotateEffect op s).faultPc = s.faultPc := by
  cases op <;> rfl
@[simp] theorem jumpIf_sp (taken : Bool) (target : Word) (s : State) : (jumpIf taken target s).sp = s.sp := by
  cases taken <;> rfl
@[simp] theorem jumpIf_mem (taken : Bool) (target : Word) (s : State) : (jumpIf taken target s).mem = s.mem := by
  cases taken <;> rfl
@[simp] theorem jumpIf_faultOpcode (taken : Bool) (target : Word) (s : State) :
    (jumpIf taken target s).faultOpcode = s.faultOpcode := by cases taken <;> rfl
@[simp] theorem jumpIf_faultPc (taken : Bool) (target : Word) (s : State) :
    (jumpIf taken target s).faultPc = s.faultPc := by cases taken <;> rfl

/-- Only an unimplemented opcode writes the fault record (R32). -/
theorem applyForm_faultRecord {f : Form} (h : ∀ b, f ≠ .unimplemented b) (s : State) :
    (applyForm f s).faultOpcode = s.faultOpcode ∧ (applyForm f s).faultPc = s.faultPc := by
  cases f with
  | unimplemented b => exact absurd rfl (h b)
  | _ =>
    simp [applyForm, mov, inr, dcr, inx, dcx, dad, mvi, lxi, sta, lda, shld, lhld, stax, ldax, push, pop, hlt, cma, stc,
      cmc]

/-- Every form keeps the canonical form of memory: a form that stores, stores by `wr8`, `memWrite`, `memWrite2` or
`pushWord`. -/
theorem wf_applyForm (f : Form) {s : State} (h : Memory.wf s.mem = true) : Memory.wf (applyForm f s).mem = true := by
  cases f with
  | mov dst src => exact wf_wr8 dst (opnd8 src s) h
  | inr o => simpa [applyForm, inr] using wf_wr8 o (opnd8 o s + 1) h
  | dcr o => simpa [applyForm, dcr] using wf_wr8 o (opnd8 o s - 1) h
  | mvi dst d8 => exact wf_wr8 dst d8 h
  | sta a16 => exact wf_memWrite a16 s.a h
  | shld a16 =>
    rw [applyForm, shld, advance_mem]
    exact wf_memWrite2 a16 (getPair .hl s) h
  | stax p => exact wf_memWrite (indexAddress p s) s.a h
  | push p =>
    rw [applyForm, push, advance_mem]
    exact wf_pushWord (stackHigh p s) (stackLow p s) h
  | _ => simpa [applyForm, inx, dcx, dad, lxi, lda, lhld, ldax, pop, hlt, cma, stc, cmc] using h

/-! ### The instruction fetched, by the opcode byte at PC -/

/-- On one of the 48 bytes a step is the fault of that byte. -/
theorem fetchInstr_of_mem_unimplementedOpcodes {s : State} (h : memRead s.pc s ∈ unimplementedOpcodes) :
    fetchInstr s = .unimplemented (memRead s.pc s) :=
  decodeOpcode_of_mem_unimplementedOpcodes _ _ _ h

theorem fetchInstr_form_ne_unimplemented {s : State} (h : memRead s.pc s ∉ unimplementedOpcodes) (b : Byte) :
    (fetchInstr s).form ≠ .unimplemented b :=
  decodeOpcode_form_ne_unimplemented h _ _ b

/-- Settles O9: on one of the 48 bytes a step raises the fault, and any other form keeps the record. -/
theorem faultRecordIsWrittenByTheFaultOnly : Obligations.FaultRecordIsWrittenByTheFaultOnly := by
  refine ⟨rfl, rfl, fun s hrun => ⟨_, step_of_running hrun, fun hmem => ?_, fun hmem => ?_⟩⟩
  · rw [fetchInstr_of_mem_unimplementedOpcodes hmem]
    exact ⟨rfl, rfl, rfl⟩
  · exact applyForm_faultRecord (fetchInstr_form_ne_unimplemented hmem) s

/-! ### The invariant -/

/-- The fault leaves PC on the byte it records, and that byte is one of the 48. -/
theorem runConsistent_raiseUnimplemented {s : State} (h : memRead s.pc s ∈ unimplementedOpcodes) :
    runConsistent (raiseUnimplemented (memRead s.pc s) s) = true := by
  have hread : memRead s.pc (raiseUnimplemented (memRead s.pc s) s) = memRead s.pc s := memRead_congr rfl s.pc
  simp only [runConsistent, raiseUnimplemented_run, raiseUnimplemented_pc, raiseUnimplemented_faultPc,
    raiseUnimplemented_faultOpcode, hread, List.contains_iff_mem.mpr h, decide_true, Bool.and_self]

/-- RUN and the fault record agree after a step: on HLT and on one of the 48 bytes the byte that ended the run is still
there, and any other form goes on running and keeps the record. -/
theorem runConsistent_step {s : State} (hrun : s.run = .running) (hs : runConsistent s = true) :
    runConsistent (applyForm (fetchInstr s).form s) = true := by
  have hrecord : s.faultOpcode = 0x00 ∧ s.faultPc = 0x0000 := by simpa [runConsistent, hrun] using hs
  by_cases hun : memRead s.pc s ∈ unimplementedOpcodes
  · rw [fetchInstr_of_mem_unimplementedOpcodes hun]
    exact runConsistent_raiseUnimplemented hun
  · have hkept := applyForm_faultRecord (fetchInstr_form_ne_unimplemented hun) s
    by_cases hhlt : (fetchInstr s).form = .hlt
    · have hbyte : memRead s.pc s = 0x76 := by_contra fun hne => decodeOpcode_form_ne_hlt hne _ _ hhlt
      rw [hhlt]
      simpa [runConsistent, applyForm, hlt, hrecord, memRead] using hbyte
    · have hgoes : (applyForm (fetchInstr s).form s).run = .running :=
        (applyForm_run _ hrun).trans (runAfter_eq_running hhlt (fetchInstr_form_ne_unimplemented hun))
      simp [runConsistent, hgoes, hkept, hrecord]

/-- Settles O11: a step applies a form, which keeps the form of memory and INTE, and RUN stays consistent. -/
theorem stepKeepsTheInvariant : Obligations.StepKeepsTheInvariant := by
  rintro s t ⟨hwf, hinte, hconsistent⟩ hstep
  obtain ⟨hrun, rfl⟩ := step_next hstep
  exact ⟨wf_applyForm _ hwf, (applyForm_inte _ s).trans hinte, runConsistent_step hrun hconsistent⟩

/-- Settles O12: nothing is listed in the memory of State.reset, and RUN is RUNNING with the fault record at 0. -/
theorem invariantAtReset : Obligations.InvariantAtReset := ⟨Memory.wf_nil, rfl, rfl⟩

/-- The inversion of `resetImage`: an image is accepted when it fits, and the state is then that of State.reset but for the
memory (R191 to R193). -/
theorem resetImage_next {image : List Byte} {s : State} (h : resetImage image = .next s) :
    image.length ≤ Memory.size ∧ s = { State.reset with mem := Memory.ofImage 0 image } := by
  unfold resetImage at h
  split_ifs at h with hempty hlong
  exact ⟨Nat.le_of_not_lt hlong, (Host.Outcome.next.inj h).symm⟩

/-- Settles O13: the memory of an image that fits is in canonical form, and the rest is as in State.reset. -/
theorem invariantAfterResetOfAnImage : Obligations.InvariantAfterResetOfAnImage := by
  intro image s h
  obtain ⟨hfits, rfl⟩ := resetImage_next h
  exact ⟨Memory.wfFrom_ofImage 0 image (by omega), rfl, rfl⟩

end Sys2Proof.Machine
end

section
/-! PROOFS. What a form leaves as it was: flags, SP and general registers, by the rows of the tables (R15, R21). -/

namespace Sys2Proof.Machine

/-! ### Flags -/

theorem keepsFlags_of_eq {s t : State} (h : t.flags = s.flags) (written : List FlagName) : KeepsFlags written s t :=
  fun n _ => congrArg (getFlag n) h

/-- The row of the arithmetic and logic operations names every flag. -/
theorem keepsFlags_all (s t : State) : KeepsFlags [.z, .s, .p, .cy, .ac] s t := by
  intro n hn
  cases n <;> simp at hn

/-- The row of INR and DCR names every flag but CY. -/
theorem keepsFlags_of_cy_eq {s t : State} (h : t.flags.cy = s.flags.cy) : KeepsFlags [.z, .s, .p, .ac] s t := by
  intro n hn
  cases n with
  | cy => exact h
  | _ => simp at hn

/-- The row of DAD, the rotates, STC and CMC names CY alone. -/
theorem keepsFlags_of_flags_with_cy {s t : State} {cy : Bool} (h : t.flags = { s.flags with cy := cy }) :
    KeepsFlags [.cy] s t := by
  intro n hn
  rw [h]
  cases n with
  | cy => simp at hn
  | _ => rfl

@[simp] theorem jumpIf_flags (taken : Bool) (target : Word) (s : State) : (jumpIf taken target s).flags = s.flags := by
  cases taken <;> rfl

theorem rotateEffect_flags (op : RotateOp) (s : State) :
    ∃ cy, (rotateEffect op s).flags = { s.flags with cy := cy } := by cases op <;> exact ⟨_, rfl⟩

theorem pop_flags {p : StackPair} (h : p ≠ .psw) (s : State) : (pop p s).flags = s.flags := by
  cases p with
  | psw => exact absurd rfl h
  | _ => rfl

/-- Settles O14, by the form: each row of the table is empty, CY alone, all but CY, or all five. -/
theorem flagsOutsideTheTableRowAreKept : Obligations.FlagsOutsideTheTableRowAreKept := by
  intro i s
  refine ⟨_, exec_eq_applyForm i s, ?_⟩
  unfold flagsWritten
  cases i.form with
  | inr o => exact keepsFlags_of_cy_eq (by simp [applyForm, inr])
  | dcr o => exact keepsFlags_of_cy_eq (by simp [applyForm, dcr])
  | alu op src => exact keepsFlags_all s _
  | aluImm op d8 => exact keepsFlags_all s _
  | dad p => exact keepsFlags_of_flags_with_cy rfl
  | rotate op =>
    obtain ⟨cy, hcy⟩ := rotateEffect_flags op s
    exact keepsFlags_of_flags_with_cy hcy
  | stc => exact keepsFlags_of_flags_with_cy rfl
  | cmc => exact keepsFlags_of_flags_with_cy rfl
  | pop p =>
    by_cases hp : p = .psw
    · simpa only [hp, if_true] using keepsFlags_all s _
    · exact keepsFlags_of_eq (pop_flags hp s) _
  | _ =>
    refine keepsFlags_of_eq ?_ _
    simp [applyForm, mov, inx, dcx, mvi, lxi, sta, lda, shld, lhld, stax, ldax, push, hlt, cma]

/-! ### SP -/

theorem setRp16_sp_of_ne {p : Rp16} (h : p ≠ .sp) (v : Word) (s : State) : (setRp16 p v s).sp = s.sp := by
  cases p with
  | sp => exact absurd rfl h
  | _ => rfl

/-- Settles O16, by the form: the pair operations write SP for the operand SP alone, PUSH and POP are writers, and no other
form names SP. -/
theorem stackPointerWriters : Obligations.StackPointerWriters := by
  intro i s
  refine ⟨_, exec_eq_applyForm i s, ?_⟩
  unfold writesSp
  cases i.form with
  | inx p => exact fun h => setRp16_sp_of_ne (of_decide_eq_false h) _ s
  | dcx p => exact fun h => setRp16_sp_of_ne (of_decide_eq_false h) _ s
  | lxi p d16 => exact fun h => setRp16_sp_of_ne (of_decide_eq_false h) _ s
  | push p => exact fun h => nomatch h
  | pop p => exact fun h => nomatch h
  | _ =>
    intro _
    simp [applyForm, mov, inr, dcr, dad, mvi, sta, lda, shld, lhld, stax, ldax, hlt, cma, stc, cmc]

/-! ### General registers -/

theorem getReg_setReg_ne {r q : Reg8} (h : q ∉ [r]) (v : Byte) (s : State) : getReg q (setReg r v s) = getReg q s := by
  rw [getReg_setReg, if_neg fun hrq => h (by simp [hrq])]

theorem getReg_wr8_ne {o : Operand8} {r : Reg8} (h : r ∉ operandRegisters o) (v : Byte) (s : State) :
    getReg r (wr8 o v s) = getReg r s := by
  cases o with
  | reg q => exact getReg_setReg_ne h v s
  | m => exact getReg_memWrite r _ v s

theorem getReg_setRp16_ne {p : Rp16} {r : Reg8} (h : r ∉ rp16Registers p) (v : Word) (s : State) :
    getReg r (setRp16 p v s) = getReg r s := by
  revert h
  cases p <;> cases r <;> simp [rp16Registers]

theorem getReg_setStackPair_ne {p : StackPair} {r : Reg8} (h : r ∉ stackPairRegisters p) (high low : Byte) (s : State) :
    getReg r (setStackPair p high low s) = getReg r s := by
  revert h
  cases p <;> cases r <;> simp [stackPairRegisters]

theorem getReg_setPair_hl_ne {r : Reg8} (h : r ∉ [Reg8.h, Reg8.l]) (v : Word) (s : State) :
    getReg r (setPair .hl v s) = getReg r s := getReg_setRp16_ne (p := .hl) h v s

/-- An accumulator operation writes no register but A, and CMP none. -/
theorem getReg_aluEffect_ne {op : AluOp} {r : Reg8} (h : r ∉ if op = .cmp then [] else [Reg8.a]) (b : Byte) (s : State) :
    getReg r (aluEffect op b s) = getReg r s := by
  by_cases hop : op = .cmp
  · rw [hop]
    exact (getReg_setAc r _ _).trans (getReg_compareFlags r _ s)
  · rw [if_neg hop] at h
    cases op with
    | cmp => exact absurd rfl hop
    | _ =>
      simp [aluEffect, addToA, adcToA, subFromA, sbbFromA, andWithA, xorWithA, orWithA, applyArithmeticFlags, logicResult,
        getReg_setReg_ne h]

theorem getReg_rotateEffect_ne {r : Reg8} (h : r ∉ [Reg8.a]) (op : RotateOp) (s : State) :
    getReg r (rotateEffect op s) = getReg r s := by
  cases op <;> simp [rotateEffect, rlc, rrc, ral, rar, rotated, getReg_setReg_ne h]

@[simp] theorem getReg_jumpIf (r : Reg8) (taken : Bool) (target : Word) (s : State) :
    getReg r (jumpIf taken target s) = getReg r s := by cases taken <;> cases r <;> rfl

/-- Settles O17, by the form: a register outside the destination is not touched by the write of the destination, and the
advance of PC and the flags touch no register. -/
theorem registersAreWrittenByDestinationOnly : Obligations.RegistersAreWrittenByDestinationOnly := by
  intro i s
  refine ⟨_, exec_eq_applyForm i s, ?_⟩
  unfold registersWritten
  cases i.form <;> intro r hr
  case mov dst src => simp [applyForm, mov, getReg_wr8_ne hr]
  case inr o => simp [applyForm, inr, getReg_wr8_ne hr]
  case dcr o => simp [applyForm, dcr, getReg_wr8_ne hr]
  case mvi dst d8 => simp [applyForm, mvi, getReg_wr8_ne hr]
  case inx p => simp [applyForm, inx, getReg_setRp16_ne hr]
  case dcx p => simp [applyForm, dcx, getReg_setRp16_ne hr]
  case lxi p d16 => simp [applyForm, lxi, getReg_setRp16_ne hr]
  case dad p => simp [applyForm, dad, getReg_setPair_hl_ne hr]
  case lhld a16 => simp [applyForm, lhld, getReg_setPair_hl_ne hr]
  case alu op src => simp [applyForm, getReg_aluEffect_ne hr]
  case aluImm op d8 => simp [applyForm, getReg_aluEffect_ne hr]
  case rotate op => simp [applyForm, getReg_rotateEffect_ne hr]
  case lda a16 => simp [applyForm, lda, getReg_setReg_ne hr]
  case ldax p => simp [applyForm, ldax, getReg_setReg_ne hr]
  case cma => simp [applyForm, cma, getReg_setReg_ne hr]
  case pop p => simp [applyForm, pop, getReg_setStackPair_ne hr]
  all_goals simp [applyForm, sta, shld, stax, push, hlt, stc, cmc]

end Sys2Proof.Machine
end

section
/-! PROOFS. Accumulator arithmetic and logic (R95 to R105, R110 to R116): one lemma per operation over every operand, for the
register forms and the immediate forms alike. -/

namespace Sys2Proof.Machine

/-! ### The instructions of the two patterns -/

/-- Every `10 alu sss` byte decodes to an instruction that applies its operation to its operand (R61, R65). -/
theorem exists_alu_instr (op : AluOp) (src : Operand8) :
    ∃ i, DecodesTo [0b10#2 ++ op.code ++ src.code] i ∧
      ∀ s, exec i s = .next (advance 1 (aluEffect op (opnd8 src s) s)) := by
  cases src with
  | reg r => cases op <;> cases r <;> exact ⟨_, fun _ => rfl, fun _ => rfl⟩
  | m => cases op <;> exact ⟨_, fun _ => rfl, fun _ => rfl⟩

/-- Every `11 alu 110` byte and the byte after it decode to an instruction that applies its operation to that byte. -/
theorem exists_aluImm_instr (op : AluOp) (d8 : Byte) :
    ∃ i, DecodesTo [0b11#2 ++ op.code ++ 0b110#3, d8] i ∧ ∀ s, exec i s = .next (advance 2 (aluEffect op d8 s)) := by
  cases op <;> exact ⟨_, fun _ => rfl, fun _ => rfl⟩

/-! ### Raw results -/

theorem setWidth_eq_lowByte (v : Word) : v.setWidth 8 = lowByte v := by
  apply BitVec.eq_of_toNat_eq
  simp [lowByte_toNat]

theorem rawSum_eq (a b : Byte) (cin : Bool) :
    rawSum a b cin = a.setWidth 16 + b.setWidth 16 + if cin then 1 else 0 := by cases cin <;> rfl

theorem rawDifference_eq (a b : Byte) (cin : Bool) :
    rawDifference a b cin = a.setWidth 16 - b.setWidth 16 - if cin then 1 else 0 := by cases cin <;> rfl

theorem rawSum_false (a b : Byte) : rawSum a b false = a.setWidth 16 + b.setWidth 16 := by simp [rawSum_eq]

theorem rawDifference_false (a b : Byte) : rawDifference a b false = a.setWidth 16 - b.setWidth 16 := by
  simp [rawDifference_eq]

/-- A difference without borrow-in is taken mod 2^16 (D27). -/
theorem rawDifference_toNat (a b : Byte) : (rawDifference a b false).toNat = (65536 - b.toNat + a.toNat) % 65536 := by
  rw [rawDifference_false, BitVec.toNat_sub, BitVec.toNat_setWidth_of_le (by decide),
    BitVec.toNat_setWidth_of_le (by decide)]

theorem lowByte_rawDifference_eq_zero_iff (a b : Byte) : lowByte (rawDifference a b false) = 0x00 ↔ a = b := by
  have ha := a.isLt
  have hb := b.isLt
  rw [← BitVec.toNat_inj, ← BitVec.toNat_inj, lowByte_toNat, rawDifference_toNat, show (0x00 : Byte).toNat = 0 from rfl]
  omega

theorem highByte_rawDifference_ne_zero_iff (a b : Byte) : highByte (rawDifference a b false) ≠ 0x00 ↔ a < b := by
  have ha := a.isLt
  have hb := b.isLt
  rw [Ne, ← BitVec.toNat_inj, BitVec.lt_def, highByte_toNat, rawDifference_toNat, show (0x00 : Byte).toNat = 0 from rfl]
  omega

/-! ### Flags and frame -/

/-- Z, S and P written by their definitions are the flags of the result (R20). -/
theorem flagsOfResult_of_eq {res : Byte} {f : Flags} (hz : f.z = zeroOf res) (hs : f.s = signOf res)
    (hp : f.p = parityEven res) : FlagsOfResult res f :=
  ⟨by simp [hz, zeroOf], hs, hp⟩

/-- An accumulator operation touches nothing but A, the flags and PC. -/
theorem frame_advance_aluEffect (len : Word) (op : AluOp) (b : Byte) (s : State) :
    Frame [.a] [.z, .s, .p, .cy, .ac] [] s (advance len (aluEffect op b s)) := by
  refine ⟨fun r hr => ?_, keepsFlags_all s _, fun addr _ => memRead_congr ?_ addr, ?_, ?_, ?_⟩
  · have hr' : r ∉ if op = .cmp then [] else [Reg8.a] := by
      split
      · exact List.not_mem_nil
      · exact hr
    exact (getReg_advance r len _).trans (getReg_aluEffect_ne hr' b s)
  · rw [advance_mem, aluEffect_mem]
  · rw [KeepsControl, advance_inte, advance_faultOpcode, advance_faultPc]
    exact ⟨aluEffect_inte op b s, aluEffect_faultOpcode op b s, aluEffect_faultPc op b s⟩
  · rw [advance_run, aluEffect_run]
  · rw [advance_sp, aluEffect_sp]

theorem aluEffect_ac (op : AluOp) (b : Byte) (s : State) :
    (aluEffect op b s).flags.ac = Config.acRule (aluKind op) s.a b (aluCarryIn op s) s.flags.ac := by cases op <;> rfl

/-! ### The arithmetic operations -/

section
variable {i : Instr} {s : State} {len : Word} {b : Byte}

/-- An operation that sets the flags of the raw result `raw`, and A unless it compares, has the effect the spec states. -/
theorem arithmeticEffect_of_exec {op : AluOp} {raw : Word} (compares : Bool)
    (hexec : exec i s = .next (advance len (aluEffect op b s)))
    (ha : (aluEffect op b s).a = if compares then s.a else lowByte raw)
    (hf : (aluEffect op b s).flags = { (compareFlags raw s).flags with ac := (aluEffect op b s).flags.ac }) :
    ArithmeticEffect i s len (aluKind op) b (aluCarryIn op s) raw compares := by
  refine ⟨_, hexec, ?_, ?_, ?_, aluEffect_ac op b s, ?_, frame_advance_aluEffect len op b s⟩
  · rw [setWidth_eq_lowByte]
    exact ha
  · rw [advance_flags, hf, setWidth_eq_lowByte]
    exact flagsOfResult_of_eq rfl rfl rfl
  · rw [advance_flags, hf]
    exact decide_eq_true_iff
  · rw [advance_pc, aluEffect_pc]

theorem add_effect (h : exec i s = .next (advance len (aluEffect .add b s))) :
    ArithmeticEffect i s len .add b false (s.a.setWidth 16 + b.setWidth 16) false := by
  rw [← rawSum_false]
  exact arithmeticEffect_of_exec false h rfl rfl

theorem adc_effect (h : exec i s = .next (advance len (aluEffect .adc b s))) :
    ArithmeticEffect i s len .adc b s.flags.cy (s.a.setWidth 16 + b.setWidth 16 + if s.flags.cy then 1 else 0) false := by
  rw [← rawSum_eq]
  exact arithmeticEffect_of_exec false h rfl rfl

theorem sub_effect (h : exec i s = .next (advance len (aluEffect .sub b s))) :
    ArithmeticEffect i s len .sub b false (s.a.setWidth 16 - b.setWidth 16) false := by
  rw [← rawDifference_false]
  exact arithmeticEffect_of_exec false h rfl rfl

theorem sbb_effect (h : exec i s = .next (advance len (aluEffect .sbb b s))) :
    ArithmeticEffect i s len .sbb b s.flags.cy (s.a.setWidth 16 - b.setWidth 16 - if s.flags.cy then 1 else 0) false := by
  rw [← rawDifference_eq]
  exact arithmeticEffect_of_exec false h rfl rfl

theorem cmp_effect (h : exec i s = .next (advance len (aluEffect .cmp b s))) :
    ArithmeticEffect i s len .cmp b false (s.a.setWidth 16 - b.setWidth 16) true ∧
    ∃ t, exec i s = .next t ∧ (t.flags.z = true ↔ s.a = b) ∧ (t.flags.cy = true ↔ s.a < b) := by
  rw [← rawDifference_false]
  refine ⟨arithmeticEffect_of_exec true h rfl rfl, _, h, ?_, ?_⟩
  · exact decide_eq_true_iff.trans (lowByte_rawDifference_eq_zero_iff s.a b)
  · exact decide_eq_true_iff.trans (highByte_rawDifference_ne_zero_iff s.a b)

end

/-- Settles O30: the register and the immediate form of ADD and of ADC apply one operation each. -/
theorem addAndAddWithCarry : Obligations.AddAndAddWithCarry := by
  intro src d8 s
  obtain ⟨add, hadd, eadd⟩ := exists_alu_instr .add src
  obtain ⟨adc, hadc, eadc⟩ := exists_alu_instr .adc src
  obtain ⟨adi, hadi, eadi⟩ := exists_aluImm_instr .add d8
  obtain ⟨aci, haci, eaci⟩ := exists_aluImm_instr .adc d8
  exact ⟨⟨add, hadd, add_effect (eadd s)⟩, ⟨adc, hadc, adc_effect (eadc s)⟩, ⟨adi, hadi, add_effect (eadi s)⟩,
    ⟨aci, haci, adc_effect (eaci s)⟩⟩

/-- Settles O31: the register and the immediate form of SUB and of SBB apply one operation each. -/
theorem subtractAndSubtractWithBorrow : Obligations.SubtractAndSubtractWithBorrow := by
  intro src d8 s
  obtain ⟨sub, hsub, esub⟩ := exists_alu_instr .sub src
  obtain ⟨sbb, hsbb, esbb⟩ := exists_alu_instr .sbb src
  obtain ⟨sui, hsui, esui⟩ := exists_aluImm_instr .sub d8
  obtain ⟨sbi, hsbi, esbi⟩ := exists_aluImm_instr .sbb d8
  exact ⟨⟨sub, hsub, sub_effect (esub s)⟩, ⟨sbb, hsbb, sbb_effect (esbb s)⟩, ⟨sui, hsui, sub_effect (esui s)⟩,
    ⟨sbi, hsbi, sbb_effect (esbi s)⟩⟩

/-- Settles O32: Z and CY of the difference mod 2^16 say whether A equals the operand and whether A is below it. -/
theorem compareLeavesTheAccumulator : Obligations.CompareLeavesTheAccumulator := by
  intro src d8 s
  obtain ⟨cmp, hcmp, ecmp⟩ := exists_alu_instr .cmp src
  obtain ⟨cpi, hcpi, ecpi⟩ := exists_aluImm_instr .cmp d8
  exact ⟨⟨cmp, hcmp, cmp_effect (ecmp s)⟩, ⟨cpi, hcpi, cmp_effect (ecpi s)⟩⟩

/-! ### The logic operations -/

/-- An operation that is `logicResult` of `res` has the effect the spec states (R110). -/
theorem logicEffect_of_exec {i : Instr} {s : State} {len : Word} {op : AluOp} {b res : Byte}
    (hexec : exec i s = .next (advance len (aluEffect op b s))) (hcin : aluCarryIn op s = false)
    (hres : aluEffect op b s = logicResult res (aluEffect op b s).flags.ac s) :
    LogicEffect i s len (aluKind op) b res := by
  have hac := aluEffect_ac op b s
  rw [hcin] at hac
  refine ⟨_, hexec, ?_, ?_, ?_, hac, ?_, frame_advance_aluEffect len op b s⟩
  · rw [advance_a, hres]
    rfl
  · rw [advance_flags, hres]
    exact flagsOfResult_of_eq rfl rfl rfl
  · rw [advance_flags, hres]
    rfl
  · rw [advance_pc, aluEffect_pc]

/-- Settles O34: ANA, XRA and ORA, in the register and in the immediate form, are `logicResult` of their result. -/
theorem logicOperations : Obligations.LogicOperations := by
  intro src d8 s
  obtain ⟨ana, hana, eana⟩ := exists_alu_instr .ana src
  obtain ⟨xra, hxra, exra⟩ := exists_alu_instr .xra src
  obtain ⟨ora, hora, eora⟩ := exists_alu_instr .ora src
  obtain ⟨ani, hani, eani⟩ := exists_aluImm_instr .ana d8
  obtain ⟨xri, hxri, exri⟩ := exists_aluImm_instr .xra d8
  obtain ⟨ori, hori, eori⟩ := exists_aluImm_instr .ora d8
  exact ⟨⟨ana, hana, logicEffect_of_exec (eana s) rfl rfl⟩, ⟨xra, hxra, logicEffect_of_exec (exra s) rfl rfl⟩,
    ⟨ora, hora, logicEffect_of_exec (eora s) rfl rfl⟩, ⟨ani, hani, logicEffect_of_exec (eani s) rfl rfl⟩,
    ⟨xri, hxri, logicEffect_of_exec (exri s) rfl rfl⟩, ⟨ori, hori, logicEffect_of_exec (eori s) rfl rfl⟩⟩

end Sys2Proof.Machine
end

section
/-! PROOFS. HLT, pairs, parity and the flag byte (R13, R23, R24, R27, R160). -/

namespace Sys2Proof.Machine

/-! ### HLT -/

/-- The code 01 110 110 is HLT, so no instruction has the form MOV M,M (R83). -/
theorem form_ne_mov_m_m (i : Instr) : i.form ≠ .mov .m .m := by
  intro h
  cases i <;> cases h

/-- Settles O48: 76 decodes to HLT, no instruction is MOV M,M, and HLT writes RUN and PC. -/
theorem haltStopsTheRun : Obligations.HaltStopsTheRun := ⟨fun _ => rfl, form_ne_mov_m_m, fun _ => rfl⟩

/-! ### Pairs -/

@[simp] theorem getPair_setPair (p : Pair) (v : Word) (s : State) : getPair p (setPair p v s) = v := by
  cases p <;> exact joinBytes_high_low v

@[simp] theorem setPair_getPair (p : Pair) (s : State) : setPair p (getPair p s) s = s := by
  cases p <;> simp [setPair, getPair]

/-- The high and the low register of a pair (R13). -/
def pairRegisters (p : Pair) : Reg8 × Reg8 :=
  match p with
  | .bc => (.b, .c)
  | .de => (.d, .e)
  | .hl => (.h, .l)

theorem getPair_toNat (p : Pair) (s : State) :
    (getPair p s).toNat = 256 * (getReg (pairRegisters p).1 s).toNat + (getReg (pairRegisters p).2 s).toNat := by
  cases p <;> exact joinBytes_toNat _ _

theorem getReg_high_setPair (p : Pair) (v : Word) (s : State) :
    getReg (pairRegisters p).1 (setPair p v s) = highByte v := by cases p <;> rfl

theorem getReg_low_setPair (p : Pair) (v : Word) (s : State) :
    getReg (pairRegisters p).2 (setPair p v s) = lowByte v := by cases p <;> rfl

theorem keepsRegisters_setPair (p : Pair) (v : Word) (s : State) :
    KeepsRegisters [(pairRegisters p).1, (pairRegisters p).2] s (setPair p v s) := by
  intro r hr
  cases p with
  | bc => exact getReg_setRp16_ne (p := .bc) hr v s
  | de => exact getReg_setRp16_ne (p := .de) hr v s
  | hl => exact getReg_setRp16_ne (p := .hl) hr v s

/-- Settles O49: the registers listed for a pair are `pairRegisters`, and a pair joins and splits its two bytes. -/
theorem pairsComposeTwoRegisters : Obligations.PairsComposeTwoRegisters := by
  refine fun p v s => ⟨fun hi lo hmem => ?_, getPair_setPair p v s, setPair_getPair p s⟩
  obtain ⟨rfl, rfl⟩ : (pairRegisters p).1 = hi ∧ (pairRegisters p).2 = lo := by
    cases p <;> simpa [pairRegisters, eq_comm] using hmem
  exact ⟨getPair_toNat p s, getReg_high_setPair p v s, getReg_low_setPair p v s, keepsRegisters_setPair p v s⟩

/-! ### Parity and the flag byte -/

/-- One more bit changes the parity of a count exactly when it is 1. -/
theorem decide_even_add_toNat (n : Nat) (b : Bool) :
    decide ((n + b.toNat) % 2 = 0) = (b ^^ decide (n % 2 = 0)) := by
  cases b with
  | false => simp
  | true =>
    rcases Nat.mod_two_eq_zero_or_one n with h | h <;> simp [h, Nat.add_mod]

/-- Settles O50: the parity of the count of 1 bits, bit by bit. -/
theorem parityIsEvenParity : Obligations.ParityIsEvenParity := by
  refine ⟨fun b => ?_, by decide⟩
  have hfirst (x : Bool) : decide (x.toNat % 2 = 0) = !x := by cases x <;> rfl
  rw [parityEven, oneBits]
  simp only [decide_even_add_toNat, hfirst, Bool.xor_not, Bool.xor_assoc]

/-- Settles O51: the eight bits of the packed byte, flag by flag. -/
theorem flagByteLayout : Obligations.FlagByteLayout := by
  refine ⟨?_, ?_, ?_⟩
  · rintro ⟨z, s, p, cy, ac⟩
    revert z s p cy ac
    decide
  · rintro ⟨z, s, p, cy, ac⟩
    revert z s p cy ac
    decide
  · refine forall_byte_of_forall_lt fun n hn => ?_
    interval_cases n <;> rfl

/-! ### The arithmetic flag update -/

theorem lowByte_eq_ofNat (v : Word) : lowByte v = BitVec.ofNat 8 (v.toNat % 256) := by
  apply BitVec.eq_of_toNat_eq
  simp [lowByte_toNat]

theorem signOf_lowByte (v : Word) : signOf (lowByte v) = v.getLsbD 7 := by
  simp [signOf, lowByte]

/-- Settles O52: the flags written are those of `compareFlags`, each read off the value of the raw result. -/
theorem arithmeticFlagUpdate : Obligations.ArithmeticFlagUpdate := by
  intro raw s
  have hraw := raw.isLt
  refine ⟨(compareFlags raw s).flags, ?_, ?_, signOf_lowByte raw, ?_, ?_, rfl⟩
  · rw [← lowByte_eq_ofNat]
    rfl
  · rw [compareFlags_flags_z, zeroOf, decide_eq_true_iff, ← BitVec.toNat_inj, lowByte_toNat]
    rfl
  · rw [compareFlags_flags_cy, decide_eq_true_iff, Ne, ← BitVec.toNat_inj, highByte_toNat,
      show (0x00 : Byte).toNat = 0 from rfl]
    omega
  · rw [← lowByte_eq_ofNat]
    rfl

end Sys2Proof.Machine
end

section
/-! PROOFS. Memory: read after write, equality by reads, and the image of a reset (R33, R40, R41, R190 to R193). -/

namespace Sys2Proof.Machine

/-- Settles O53, by the law of a byte read after a byte write. -/
theorem memoryReadAfterWrite : Obligations.MemoryReadAfterWrite := by
  intro addr other v s
  refine ⟨?_, fun hne => ?_, rfl⟩
  · rw [memRead_memWrite, if_pos rfl]
  · rw [memRead_memWrite, if_neg hne]

/-! ### A memory in canonical form is determined by its reads -/

/-- A byte that reads other than an unlisted one stands at or above the lowest address. -/
theorem Memory.le_of_read_ne {m : Memory} {low addr : Nat} (h : Memory.wfFrom low m = true)
    (hread : Memory.read m addr ≠ Memory.unlisted) : low ≤ addr := by
  induction m generalizing low with
  | nil => exact absurd rfl hread
  | cons kv m ih =>
    obtain ⟨k, v⟩ := kv
    simp only [Memory.wfFrom, Bool.and_eq_true, decide_eq_true_eq] at h
    obtain ⟨⟨⟨hlow, -⟩, -⟩, hm⟩ := h
    by_cases hk : k = addr
    · omega
    · have := ih hm (by simpa [Memory.read, hk] using hread)
      omega

theorem Memory.read_of_lt {m : Memory} {low addr : Nat} (h : Memory.wfFrom low m = true) (hlt : addr < low) :
    Memory.read m addr = Memory.unlisted :=
  by_contra fun hne => absurd (Memory.le_of_read_ne h hne) (by omega)

@[simp] theorem Memory.read_cons_same (k : Nat) (v : Byte) (m : Memory) : Memory.read ((k, v) :: m) k = v := by
  simp [Memory.read]

/-- The parts of the canonical form of a memory with a first entry. -/
theorem Memory.wfFrom_cons {low k : Nat} {v : Byte} {m : Memory} (h : Memory.wfFrom low ((k, v) :: m) = true) :
    Memory.wfFrom k ((k, v) :: m) = true ∧ k < Memory.size ∧ v ≠ Memory.unlisted ∧ Memory.wfFrom (k + 1) m = true := by
  simp only [Memory.wfFrom, Bool.and_eq_true, decide_eq_true_eq] at h ⊢
  obtain ⟨⟨⟨-, hk⟩, hv⟩, hm⟩ := h
  exact ⟨⟨⟨⟨Nat.le_refl k, hk⟩, hv⟩, hm⟩, hk, hv, hm⟩

/-- By induction on the entries: both memories start at the lowest address that reads other than an unlisted one, with the
byte read there, and what follows reads alike. -/
theorem Memory.eq_of_read_eq {m n : Memory} {low : Nat} (hm : Memory.wfFrom low m = true)
    (hn : Memory.wfFrom low n = true) (hread : ∀ addr < Memory.size, Memory.read m addr = Memory.read n addr) : m = n := by
  induction m generalizing low n with
  | nil =>
    cases n with
    | nil => rfl
    | cons kv n =>
      obtain ⟨k, v⟩ := kv
      obtain ⟨-, hk, hv, -⟩ := Memory.wfFrom_cons hn
      exact absurd (by simpa using (hread k hk).symm) hv
  | cons kv m ih =>
    obtain ⟨k, v⟩ := kv
    obtain ⟨hkm, hk, hv, hm'⟩ := Memory.wfFrom_cons hm
    cases n with
    | nil => exact absurd (by simpa using hread k hk) hv
    | cons kv' n =>
      obtain ⟨k', v'⟩ := kv'
      obtain ⟨hkn, hk', hv', hn'⟩ := Memory.wfFrom_cons hn
      have hread_k := hread k hk
      have hread_k' := hread k' hk'
      rw [Memory.read_cons_same] at hread_k hread_k'
      have hle : k ≤ k' := Memory.le_of_read_ne hkm (hread_k'.trans_ne hv')
      have hge : k' ≤ k := Memory.le_of_read_ne hkn (hread_k.symm.trans_ne hv)
      obtain rfl : k = k' := Nat.le_antisymm hle hge
      obtain rfl : v = v' := hread_k.trans (Memory.read_cons_same k v' n)
      refine congrArg _ (ih hm' hn' fun addr haddr => ?_)
      by_cases hne : k = addr
      · rw [Memory.read_of_lt hm' (by omega), Memory.read_of_lt hn' (by omega)]
      · simpa [Memory.read, hne] using hread addr haddr

/-- Settles O56: every address below `Memory.size` is that of a word. -/
theorem canonicalMemoriesAreEqualWhenReadAlike : Obligations.CanonicalMemoriesAreEqualWhenReadAlike := by
  intro m n hm hn hread
  refine Memory.eq_of_read_eq hm hn fun addr haddr => ?_
  have hword : (BitVec.ofNat 16 addr).toNat = addr := Nat.mod_eq_of_lt haddr
  rw [← hword]
  exact hread _

/-! ### The image of a reset -/

theorem Memory.read_ofImage_of_lt {start addr : Nat} (h : addr < start) (image : List Byte) :
    Memory.read (Memory.ofImage start image) addr = Memory.unlisted := by
  induction image generalizing start with
  | nil => rfl
  | cons b image ih =>
    have hne : start ≠ addr := by omega
    have hrest := ih (start := start + 1) (by omega)
    by_cases hb : b = Memory.unlisted <;> simp [Memory.ofImage, Memory.read, hb, hne, hrest]

/-- Memory holds the image from its start up, and the unlisted byte after it (R193). -/
theorem Memory.read_ofImage_add (start k : Nat) (image : List Byte) :
    Memory.read (Memory.ofImage start image) (start + k) = image.getD k Memory.unlisted := by
  induction image generalizing start k with
  | nil => simp [Memory.ofImage]
  | cons b image ih =>
    cases k with
    | zero =>
      have hrest := Memory.read_ofImage_of_lt (Nat.lt_succ_self start) image
      by_cases hb : b = Memory.unlisted <;> simp [Memory.ofImage, hb, hrest]
    | succ k =>
      have hrest := ih (start + 1) k
      rw [Nat.add_right_comm, Nat.add_assoc] at hrest
      by_cases hb : b = Memory.unlisted <;> simp [Memory.ofImage, Memory.read, hb, hrest]

/-- Settles O58: an image that fits gives State.reset with the memory of the image, which reads as the image does. -/
theorem resetLoadsTheImage : Obligations.ResetLoadsTheImage := by
  refine ⟨rfl, fun image hlong => ?_, fun image hpos hfits => ?_, rfl⟩
  · have hne : image.length ≠ 0 := by omega
    simp only [resetImage, hne, Memory.size, hlong, if_true, if_false]
  · refine ⟨_, resetImage_of_fits hpos hfits, fun r => ?_, rfl, rfl, fun n => ?_, rfl, rfl, rfl, rfl, fun addr => ?_⟩
    · cases r <;> rfl
    · cases n <;> rfl
    · simpa [memRead, Memory.unlisted] using Memory.read_ofImage_add 0 addr.toNat image

end Sys2Proof.Machine
end

section
/-! PROOFS. Memory under two-byte accesses, the stack and stores, and the fetch that follows a store (R42, R47 to R49, R55). -/

namespace Sys2Proof.Machine

/-! ### Two-byte accesses -/

/-- A byte read after a two-byte write (R42, R43): the high byte is written last, at the upper address. -/
theorem memRead_memWrite2 (addr other v : Word) (s : State) :
    memRead other (memWrite2 addr v s) =
      if other = addr + 1 then highByte v else if other = addr then lowByte v else memRead other s := by
  simp only [memWrite2, memRead_memWrite]

theorem memRead_memWrite2_low (addr v : Word) (s : State) : memRead addr (memWrite2 addr v s) = lowByte v := by
  simp [memRead_memWrite2]

theorem memRead_memWrite2_high (addr v : Word) (s : State) : memRead (addr + 1) (memWrite2 addr v s) = highByte v := by
  simp [memRead_memWrite2]

theorem memRead2_memWrite2 (addr v : Word) (s : State) : memRead2 addr (memWrite2 addr v s) = v := by
  rw [memRead2, memRead_memWrite2_high, memRead_memWrite2_low, joinBytes_high_low]

/-! ### The bytes a store leaves alone -/

theorem keepsMemory_of_mem_eq {s t : State} (h : t.mem = s.mem) (stored : List Word) : KeepsMemory stored s t :=
  fun addr _ => memRead_congr h addr

theorem keepsMemory_memWrite (addr : Word) (v : Byte) (s : State) : KeepsMemory [addr] s (memWrite addr v s) := by
  intro other hother
  rw [memRead_memWrite, if_neg fun heq => hother (by simp [heq])]

theorem keepsMemory_memWrite2 (addr v : Word) (s : State) : KeepsMemory [addr, addr + 1] s (memWrite2 addr v s) := by
  intro other hother
  obtain ⟨hlow, hhigh⟩ : other ≠ addr ∧ other ≠ addr + 1 := by simpa using hother
  rw [memRead_memWrite2, if_neg hhigh, if_neg hlow]

theorem keepsMemory_wr8 (o : Operand8) (v : Byte) (s : State) :
    KeepsMemory (operandAddresses o s) s (wr8 o v s) := by
  cases o with
  | reg r => exact keepsMemory_of_mem_eq (setReg_mem r v s) []
  | m => exact keepsMemory_memWrite (addressOfM s) v s

/-- Settles O54: the two byte writes go to different addresses, so both read back. -/
theorem twoByteAccess : Obligations.TwoByteAccess := fun addr v s =>
  ⟨joinBytes_toNat _ _, memRead_memWrite2_low addr v s, memRead_memWrite2_high addr v s, memRead2_memWrite2 addr v s,
    keepsMemory_memWrite2 addr v s, rfl⟩

/-! ### The stack -/

theorem sub_two_add_one (v : Word) : v - 2 + 1 = v - 1 := by bv_omega

/-- `pushWord` is a two-byte write below SP (R47). -/
theorem pushWord_eq_memWrite2 (high low : Byte) (s : State) :
    pushWord high low s = memWrite2 (s.sp - 2) (joinBytes high low) { s with sp := s.sp - 2 } := by
  simp only [pushWord, memWrite2, highByte_joinBytes, lowByte_joinBytes]

@[simp] theorem popLow_pushWord (high low : Byte) (s : State) : popLow (pushWord high low s) = low := by
  rw [popLow, pushWord_sp, pushWord_eq_memWrite2, memRead_memWrite2_low, lowByte_joinBytes]

@[simp] theorem popHigh_pushWord (high low : Byte) (s : State) : popHigh (pushWord high low s) = high := by
  rw [popHigh, pushWord_sp, pushWord_eq_memWrite2, memRead_memWrite2_high, highByte_joinBytes]

@[simp] theorem popWord_pushWord_sp (high low : Byte) (s : State) : (popWord (pushWord high low s)).sp = s.sp := by
  rw [popWord_sp, pushWord_sp, BitVec.sub_add_cancel]

theorem keepsMemory_pushWord (high low : Byte) (s : State) :
    KeepsMemory [s.sp - 2, s.sp - 1] s (pushWord high low s) := by
  rw [pushWord_eq_memWrite2, ← sub_two_add_one]
  exact keepsMemory_memWrite2 (s.sp - 2) (joinBytes high low) { s with sp := s.sp - 2 }

/-- Settles O55: what `pushWord` stores at SP-2 and SP-1 is what `popWord` takes at the new SP and the byte above it. -/
theorem pushWordThenPopWord : Obligations.PushWordThenPopWord := by
  intro high low s
  have hhigh : memRead (s.sp - 1) (pushWord high low s) = high := by
    rw [← sub_two_add_one]
    exact popHigh_pushWord high low s
  refine ⟨pushWord_sp high low s, popLow_pushWord high low s, hhigh, keepsMemory_pushWord high low s, rfl, rfl, rfl, rfl,
    ?_, popWord_pushWord_sp high low s⟩
  rw [popHigh_pushWord, popLow_pushWord]

/-! ### Stores, by the rows of the table -/

/-- Settles O18, by the form: a form that stores, stores by `wr8`, `memWrite`, `memWrite2` or `pushWord` at the addresses of
its row, and any other form leaves memory as it is. -/
theorem memoryIsWrittenAtStoreAddressesOnly : Obligations.MemoryIsWrittenAtStoreAddressesOnly := by
  intro i s
  refine ⟨_, exec_eq_applyForm i s, ?_⟩
  change KeepsMemory (storeAddresses i s) s _
  unfold storeAddresses
  cases i.form with
  | mov dst src => exact keepsMemory_wr8 dst (opnd8 src s) s
  | inr o => exact keepsMemory_wr8 o (opnd8 o s + 1) s
  | dcr o => exact keepsMemory_wr8 o (opnd8 o s - 1) s
  | mvi dst d8 => exact keepsMemory_wr8 dst d8 s
  | sta a16 => exact keepsMemory_memWrite a16 s.a s
  | shld a16 => exact keepsMemory_memWrite2 a16 (getPair .hl s) s
  | stax p => exact keepsMemory_memWrite (indexAddress p s) s.a s
  | push p => exact keepsMemory_pushWord (stackHigh p s) (stackLow p s) s
  | _ =>
    refine keepsMemory_of_mem_eq ?_ _
    simp [applyForm, inx, dcx, dad, lxi, lda, lhld, ldax, pop, hlt, cma, stc, cmc]

/-! ### A store seen by the next fetch -/

/-- 32 at PC is STA of the address in the two bytes after it (R130). -/
theorem fetchInstr_eq_sta {s : State} {a16 : Word} (hopcode : memRead s.pc s = 0x32)
    (hlow : memRead (s.pc + 1) s = lowByte a16) (hhigh : memRead (s.pc + 2) s = highByte a16) :
    fetchInstr s = .sta a16 := by
  rw [fetchInstr, fetchOpcode, operandAddress, hopcode, hlow, hhigh, joinBytes_high_low]
  rfl

/-- 76 at PC is HLT (R160). -/
theorem fetchInstr_eq_hlt {s : State} (h : fetchOpcode s = 0x76) : fetchInstr s = .hlt := by
  rw [fetchInstr, h]
  rfl

/-- After STA the byte at its address is A (R130). -/
theorem memRead_sta (a16 : Word) (s : State) : memRead a16 (sta a16 s) = s.a := by
  rw [sta, memRead_congr (advance_mem 3 _), memRead_memWrite, if_pos rfl]

/-- Settles O57: STA advances PC to the address it stored A at, so A is the opcode fetched next. -/
theorem storeIsSeenByTheNextFetch : Obligations.StoreIsSeenByTheNextFetch := by
  intro s hrun hopcode hlow hhigh
  have hstep : step s = .next (sta (s.pc + 3) s) := by
    rw [step_of_running hrun, fetchInstr_eq_sta hopcode hlow hhigh]
    rfl
  have hfetch : fetchOpcode (sta (s.pc + 3) s) = s.a := memRead_sta (s.pc + 3) s
  refine ⟨_, hstep, rfl, hfetch, fun ha => ?_⟩
  refine ⟨hlt (sta (s.pc + 3) s), ?_, rfl, BitVec.add_assoc s.pc 3 1⟩
  rw [step_of_running (s := sta (s.pc + 3) s) hrun, fetchInstr_eq_hlt (hfetch.trans ha)]
  rfl

end Sys2Proof.Machine
end

section
/-! PROOFS. The decoder against the encoder: round trips, lengths and the unimplemented bytes (R60 to R74, R168). -/

namespace Sys2Proof.Machine

/-! ### The operand bytes of an opcode byte -/

/-- How many operand bytes an entry of the opcode map reads (R60, R69). -/
def operandCount : OpcodeEntry → Nat
  | .absent => 0
  | .one _ => 0
  | .two _ => 1
  | .three _ => 2

/-- The operand bytes an entry reads, given its operand as a byte and as a 16-bit value (R68). -/
def entryOperandBytes (e : OpcodeEntry) (d8 : Byte) (d16 : Word) : List Byte :=
  match e with
  | .absent => []
  | .one _ => []
  | .two _ => [d8]
  | .three _ => [lowByte d16, highByte d16]

theorem entryOperandBytes_length (e : OpcodeEntry) (d8 : Byte) (d16 : Word) :
    (entryOperandBytes e d8 d16).length = operandCount e := by cases e <;> rfl

theorem operandCount_cases (e : OpcodeEntry) : operandCount e = 0 ∨ operandCount e = 1 ∨ operandCount e = 2 := by
  cases e <;> simp [operandCount]

/-- The map of R70 against the patterns of R61: the instruction an opcode byte selects has the operand bytes of its entry. -/
theorem decodeOpcode_form_operandBytes (opcode d8 : Byte) (d16 : Word) :
    (decodeOpcode opcode d8 d16).form.operandBytes = entryOperandBytes (opcodeEntry opcode) d8 d16 := by
  revert opcode
  refine forall_byte_of_forall_lt fun n hn => ?_
  interval_cases n <;> rfl

/-- The encoding of the instruction an opcode byte selects: that byte, and the operand bytes of its entry. -/
theorem encode_decodeOpcode (opcode d8 : Byte) (d16 : Word) :
    encode (decodeOpcode opcode d8 d16) = opcode :: entryOperandBytes (opcodeEntry opcode) d8 d16 := by
  rw [encode, decodeOpcode_form_opcode, decodeOpcode_form_operandBytes]

theorem length_decodeOpcode (opcode d8 : Byte) (d16 : Word) :
    (decodeOpcode opcode d8 d16).length = operandCount (opcodeEntry opcode) + 1 := by
  rw [Instr.length, encode_decodeOpcode, List.length_cons, entryOperandBytes_length]

/-! ### What the decoder reads -/

/-- The decoder consumes an opcode byte and the operand bytes of its entry, and no other (R60, R74). -/
theorem decode_entryOperandBytes (opcode d8 : Byte) (d16 : Word) (rest : List Byte) :
    decode (opcode :: (entryOperandBytes (opcodeEntry opcode) d8 d16 ++ rest)) =
      .ok (decodeOpcode opcode d8 d16, rest) := by
  cases h : opcodeEntry opcode <;> simp [decode, decodeOpcode, entryOperandBytes, h]

/-- The inversion of `decode`: what it reads is an opcode byte and the operand bytes of its entry. -/
theorem decode_ok {bytes rest : List Byte} {i : Instr} (h : decode bytes = .ok (i, rest)) :
    ∃ opcode d8 d16, i = decodeOpcode opcode d8 d16 ∧
      bytes = opcode :: (entryOperandBytes (opcodeEntry opcode) d8 d16 ++ rest) := by
  match bytes with
  | [] => cases h
  | opcode :: tail =>
    have hoperands : ∃ d8 d16 tail', tail = entryOperandBytes (opcodeEntry opcode) d8 d16 ++ tail' := by
      cases hentry : opcodeEntry opcode with
      | absent => exact ⟨0, 0, tail, rfl⟩
      | one j => exact ⟨0, 0, tail, rfl⟩
      | two j =>
        match tail with
        | [] => simp [decode, hentry] at h
        | d8 :: tail => exact ⟨d8, 0, tail, rfl⟩
      | three j =>
        match tail with
        | [] => simp [decode, hentry] at h
        | [_] => simp [decode, hentry] at h
        | low :: high :: tail => exact ⟨0, joinBytes high low, tail, by simp [entryOperandBytes]⟩
    obtain ⟨d8, d16, tail, rfl⟩ := hoperands
    rw [decode_entryOperandBytes] at h
    cases h
    exact ⟨opcode, d8, d16, rfl, rfl⟩

/-- Where two bytes follow the opcode byte, the decoder reads as many of them as the entry of that byte says (R69, R74). -/
theorem decode_opcode_two_bytes (opcode second third : Byte) (rest : List Byte) :
    decode (opcode :: second :: third :: rest) =
      .ok (decodeOpcode opcode second (joinBytes third second),
        (second :: third :: rest).drop (operandCount (opcodeEntry opcode))) := by
  cases h : opcodeEntry opcode <;> simp [decode, decodeOpcode, operandCount, h]

/-! ### Round trips -/

/-- Settles O2: the decoder reads an opcode byte and the operand bytes of its entry, which is how the instruction that byte
selects is encoded. -/
theorem encodeOfDecodeIsTheBytes : Obligations.EncodeOfDecodeIsTheBytes := by
  intro bytes i rest h
  obtain ⟨opcode, d8, d16, rfl, rfl⟩ := decode_ok h
  refine ⟨decodeOpcode_wellFormed opcode d8 d16, ?_⟩
  rw [encode_decodeOpcode, List.cons_append]

/-- The 8-bit operand of a form, 0 where it has none. -/
def formD8 : Form → Byte
  | .aluImm _ d8 => d8
  | .mvi _ d8 => d8
  | _ => 0

/-- The 16-bit operand of a form, 0 where it has none. -/
def formD16 : Form → Word
  | .lxi _ d16 => d16
  | .sta a16 => a16
  | .lda a16 => a16
  | .shld a16 => a16
  | .lhld a16 => a16
  | .jmp a16 => a16
  | .jcc _ a16 => a16
  | _ => 0

/-- The patterns of R61 against the map of R70: a well-formed instruction is the one that its opcode byte selects, with its
operands. -/
theorem decodeOpcode_opcode_form {i : Instr} (h : i.wellFormed = true) :
    decodeOpcode i.form.opcode (formD8 i.form) (formD16 i.form) = i := by
  cases i with
  | unimplemented opcode => exact decodeOpcode_of_mem_unimplementedOpcodes _ _ opcode (List.contains_iff_mem.mp h)
  | _ =>
    -- The opcode byte evaluates only once it is written without the operand.
    simp only [Instr.form, Form.opcode]
    rfl

/-- The encoding of a well-formed instruction decodes to it, whatever follows. -/
theorem decodesTo_encode {i : Instr} (h : i.wellFormed = true) : DecodesTo (encode i) i := by
  intro rest
  rw [← decodeOpcode_opcode_form h, encode_decodeOpcode, List.cons_append]
  exact decode_entryOperandBytes _ _ _ rest

/-- Settles O1: a well-formed instruction is one that an opcode byte selects, and its encoding is what the decoder reads at
that byte. -/
theorem decodeOfEncodeIsTheInstruction : Obligations.DecodeOfEncodeIsTheInstruction :=
  fun _ rest h => decodesTo_encode h rest

/-! ### Totality and length -/

/-- An opcode byte selects `unimplemented` exactly when it is one of the 48 (R71). -/
theorem decodeOpcode_eq_unimplemented_iff (opcode d8 : Byte) (d16 : Word) :
    decodeOpcode opcode d8 d16 = .unimplemented opcode ↔ opcode ∈ unimplementedOpcodes := by
  refine ⟨fun h => ?_, decodeOpcode_of_mem_unimplementedOpcodes d8 d16 opcode⟩
  have hwf := decodeOpcode_wellFormed opcode d8 d16
  rw [h] at hwf
  exact List.contains_iff_mem.mp hwf

/-- Settles O3: the entry of an opcode byte says how many operand bytes are read, and the instruction selected has that
opcode byte. -/
theorem decodingIsTotalOnOpcodeBytes : Obligations.DecodingIsTotalOnOpcodeBytes := by
  refine ⟨by decide, fun opcode => ⟨operandCount (opcodeEntry opcode), operandCount_cases _, fun second third rest => ?_⟩⟩
  exact ⟨_, decode_opcode_two_bytes opcode second third rest, decodeOpcode_form_opcode _ _ _,
    decodeOpcode_eq_unimplemented_iff _ _ _⟩

/-- The length by the pattern of the opcode byte (R69). -/
def patternLength (opcode : Byte) : Nat :=
  if opcode &&& 0b11001111 = 0b00000001 ∨ opcode ∈ [0x22, 0x2A, 0x32, 0x3A, 0xC3] ∨ opcode &&& 0b11000111 = 0b11000010
  then 3
  else if opcode &&& 0b11000111 = 0b00000110 ∨ opcode &&& 0b11000111 = 0b11000110 then 2
  else 1

/-- The map of R70 against the lengths of R69: the patterns of two and three bytes hold no unimplemented byte. -/
theorem operandCount_opcodeEntry (opcode : Byte) : operandCount (opcodeEntry opcode) + 1 = patternLength opcode := by
  revert opcode
  refine forall_byte_of_forall_lt fun n hn => ?_
  interval_cases n <;> rfl

/-- Settles O4: the length is one more than the operand bytes the entry reads, which is the length of the pattern, also on the
unimplemented bytes. -/
theorem lengthFollowsFromTheOpcode : Obligations.LengthFollowsFromTheOpcode := by
  intro opcode second third _
  have hlength := length_decodeOpcode opcode second (joinBytes third second)
  refine ⟨_, ?_, hlength.trans (operandCount_opcodeEntry opcode)⟩
  rw [hlength]
  exact decode_opcode_two_bytes opcode second third []

/-- Settles O5: the seventeen words, each evaluated with any bytes after it. -/
theorem wordsOfEveryFamilyDecode : Obligations.WordsOfEveryFamilyDecode := by
  and_intros <;> exact fun _ => rfl

/-! ### The unimplemented opcodes -/

/-- Settles O8: one of the 48 bytes is the whole encoding of `unimplemented`, decoded alone and fetched alike, whose meaning
is the fault. -/
theorem unimplementedOpcodeFaults : Obligations.UnimplementedOpcodeFaults := by
  refine ⟨fun opcode hopcode => ⟨.unimplemented opcode, ?_, fun _ => rfl⟩, fun s hrun hopcode => ?_⟩
  · exact decodesTo_encode (i := .unimplemented opcode) (List.contains_iff_mem.mpr hopcode)
  · rw [step_running hrun, fetchInstr_of_mem_unimplementedOpcodes hopcode]
    rfl

end Sys2Proof.Machine
end

section
/-! PROOFS. JMP and the eight conditional jumps (R145 to R154). -/

namespace Sys2Proof.Machine

/-- A jump writes PC and nothing else (R145). -/
theorem jumpIf_eq (taken : Bool) (target : Word) (s : State) :
    jumpIf taken target s = { s with pc := bif taken then target else s.pc + 3 } := by cases taken <;> rfl

/-- Every `11 ccc 010` byte and the two bytes after it decode to the jump under its condition (R61, R67). -/
theorem exists_jcc_instr (ccc : Cond) (low high : Byte) :
    ∃ i, DecodesTo [0b11#2 ++ ccc.code ++ 0b010#3, low, high] i ∧
      ∀ s, exec i s = .next (jumpIf (condition ccc s.flags) (joinBytes high low) s) := by
  cases ccc <;> exact ⟨_, fun _ => rfl, fun _ => rfl⟩

/-- Settles O47: JMP is the jump always taken, and a conditional jump is taken when the flag it names has the value its
condition asks for. -/
theorem jumps : Obligations.Jumps := by
  intro ccc low high s
  refine ⟨⟨.jmp (joinBytes high low), fun _ => rfl, rfl⟩, ?_⟩
  obtain ⟨i, hdecode, hexec⟩ := exists_jcc_instr ccc low high
  refine ⟨i, hdecode, ?_⟩
  rw [hexec, jumpIf_eq]
  cases ccc <;> simp [condition]

end Sys2Proof.Machine
end

section
/-! PROOFS. MOV in its three forms, and the frame of a byte written to an operand (R80 to R82). -/

namespace Sys2Proof.Machine

/-- Every `01 ddd sss` byte but 76 decodes to an instruction that moves its source to its destination (R61, R83). -/
theorem exists_mov_instr {dst src : Operand8} (h : ¬(dst = .m ∧ src = .m)) :
    ∃ i, DecodesTo [0b01#2 ++ dst.code ++ src.code] i ∧ ∀ s, exec i s = .next (mov dst src s) := by
  cases dst with
  | reg r =>
    cases src with
    | reg q => cases r <;> cases q <;> exact ⟨_, fun _ => rfl, fun _ => rfl⟩
    | m => cases r <;> exact ⟨_, fun _ => rfl, fun _ => rfl⟩
  | m =>
    cases src with
    | reg q => cases q <;> exact ⟨_, fun _ => rfl, fun _ => rfl⟩
    | m => exact absurd ⟨rfl, rfl⟩ h

/-- A byte written to an operand, and PC moved past the instruction, touch nothing but that operand and PC. -/
theorem frame_advance_wr8 (len : Word) (o : Operand8) (v : Byte) (s : State) :
    Frame (operandRegisters o) [] (operandAddresses o s) s (advance len (wr8 o v s)) := by
  refine ⟨fun r hr => ?_, keepsFlags_of_eq ?_ [], fun addr haddr => ?_, ?_, ?_, ?_⟩
  · exact (getReg_advance r len _).trans (getReg_wr8_ne hr v s)
  · rw [advance_flags, wr8_flags]
  · exact (memRead_congr (advance_mem len _) addr).trans (keepsMemory_wr8 o v s addr haddr)
  · rw [KeepsControl, advance_inte, advance_faultOpcode, advance_faultPc]
    exact ⟨wr8_inte o v s, wr8_faultOpcode o v s, wr8_faultPc o v s⟩
  · rw [advance_run, wr8_run]
  · rw [advance_sp, wr8_sp]

theorem getReg_advance_wr8_reg (len : Word) (r : Reg8) (v : Byte) (s : State) :
    getReg r (advance len (wr8 (.reg r) v s)) = v :=
  (getReg_advance r len _).trans (getReg_setReg_same r v s)

theorem memRead_advance_wr8_m (len : Word) (v : Byte) (s : State) :
    memRead (addressOfM s) (advance len (wr8 .m v s)) = v := by
  rw [memRead_congr (advance_mem len _), wr8, memRead_memWrite, if_pos rfl]

@[simp] theorem mov_pc (dst src : Operand8) (s : State) : (mov dst src s).pc = s.pc + 1 := by
  rw [mov, advance_pc, wr8_pc]

/-- MOV to a register, from a register (R80) or from M (R81): the operand is read in the state before, and only the
destination and PC change. -/
theorem mov_to_register (dst : Reg8) (src : Operand8) (s : State) :
    ∃ i, DecodesTo [0b01#2 ++ dst.code ++ src.code] i ∧ ∃ t, exec i s = .next t ∧
      getReg dst t = opnd8 src s ∧ t.pc = s.pc + 1 ∧ Frame [dst] [] [] s t := by
  obtain ⟨i, hdecode, hexec⟩ := exists_mov_instr (dst := .reg dst) (src := src) (by simp)
  exact ⟨i, hdecode, _, hexec s, getReg_advance_wr8_reg 1 dst (opnd8 src s) s, mov_pc (.reg dst) src s,
    frame_advance_wr8 1 (.reg dst) (opnd8 src s) s⟩

/-- Settles O20: the source of a MOV to a register is a register. -/
theorem movRegisterToRegister : Obligations.MovRegisterToRegister :=
  fun dst src s => mov_to_register dst (.reg src) s

/-- Settles O21: the source of a MOV to a register is M, read at the address that H and L hold before the write. -/
theorem movMemoryToRegister : Obligations.MovMemoryToRegister :=
  fun dst s => mov_to_register dst .m s

/-- Settles O22: the byte is written at the address that H and L hold, and no register changes. -/
theorem movRegisterToMemory : Obligations.MovRegisterToMemory := by
  intro src s
  obtain ⟨i, hdecode, hexec⟩ := exists_mov_instr (dst := .m) (src := .reg src) (by simp)
  exact ⟨i, hdecode, _, hexec s, memRead_advance_wr8_m 1 (getReg src s) s, mov_pc .m (.reg src) s,
    frame_advance_wr8 1 .m (getReg src s) s⟩

end Sys2Proof.Machine
end

section
/-! PROOFS. INR, DCR, INX, DCX and DAD (R85 to R91). -/

namespace Sys2Proof.Machine

/-! ### The instruction of a form -/

/-- A form that the map of R70 gives for its own encoding is that of an instruction, with that encoding. -/
theorem exists_instr_of_form {f : Form} (h : (decodeOpcode f.opcode (formD8 f) (formD16 f)).form = f) :
    ∃ i, DecodesTo (f.opcode :: f.operandBytes) i ∧ ∀ s, exec i s = .next (applyForm f s) := by
  have hdecode := decodesTo_encode (decodeOpcode_wellFormed f.opcode (formD8 f) (formD16 f))
  rw [encode, h] at hdecode
  refine ⟨_, hdecode, fun s => ?_⟩
  rw [exec_eq_applyForm, h]

/-! ### The frame of a write followed by flags -/

/-- Flags written after everything else widen a frame by their names. -/
theorem frame_with_flags {registers : List Reg8} {written : List FlagName} {stored : List Word} {s t : State} {f : Flags}
    (h : Frame registers [] stored s t) (hf : KeepsFlags written s { t with flags := f }) :
    Frame registers written stored s { t with flags := f } := by
  obtain ⟨hregisters, -, hmemory, hcontrol, hrun, hsp⟩ := h
  exact ⟨fun r hr => (getReg_congr rfl rfl rfl rfl rfl rfl rfl r).trans (hregisters r hr), hf, hmemory, hcontrol, hrun, hsp⟩

/-! ### INR and DCR -/

/-- What INR and DCR share: the result to the operand, Z, S and P of the result, CY kept, AC by AC_RULE on the operand before,
PC moved on (R26, R28). -/
def incDec (kind : AcKind) (o : Operand8) (res : Byte) (s : State) : State :=
  { advance 1 (wr8 o res s) with
    flags :=
      { z := zeroOf res, s := signOf res, p := parityEven res, cy := s.flags.cy,
        ac := auxCarry kind (opnd8 o s) 0x01 false s } }

theorem inr_eq_incDec (o : Operand8) (s : State) : inr o s = incDec .inr o (opnd8 o s + 1) s := by
  cases o with
  | reg r => cases r <;> rfl
  | m => rfl

theorem dcr_eq_incDec (o : Operand8) (s : State) : dcr o s = incDec .dcr o (opnd8 o s - 1) s := by
  cases o with
  | reg r => cases r <;> rfl
  | m => rfl

/-- Every `00 ddd 100` byte decodes to the INR of its operand (R61). -/
theorem exists_inr_instr (o : Operand8) :
    ∃ i, DecodesTo [0b00#2 ++ o.code ++ 0b100#3] i ∧ ∀ s, exec i s = .next (incDec .inr o (opnd8 o s + 1) s) := by
  simp only [← inr_eq_incDec]
  refine exists_instr_of_form (f := .inr o) ?_
  cases o with
  | reg r => cases r <;> rfl
  | m => rfl

/-- Every `00 ddd 101` byte decodes to the DCR of its operand (R61). -/
theorem exists_dcr_instr (o : Operand8) :
    ∃ i, DecodesTo [0b00#2 ++ o.code ++ 0b101#3] i ∧ ∀ s, exec i s = .next (incDec .dcr o (opnd8 o s - 1) s) := by
  simp only [← dcr_eq_incDec]
  refine exists_instr_of_form (f := .dcr o) ?_
  cases o with
  | reg r => cases r <;> rfl
  | m => rfl

@[simp] theorem incDec_pc (kind : AcKind) (o : Operand8) (res : Byte) (s : State) :
    (incDec kind o res s).pc = s.pc + 1 := congrArg (· + 1) (wr8_pc o res s)

@[simp] theorem incDec_run (kind : AcKind) (o : Operand8) (res : Byte) (s : State) :
    (incDec kind o res s).run = s.run := wr8_run o res s

/-- The operand reads as the result; M is read at the address before, which INR M and DCR M leave alone. -/
theorem opnd8_incDec (kind : AcKind) (o : Operand8) (res : Byte) (s : State) : opnd8 o (incDec kind o res s) = res := by
  cases o with
  | reg r => exact (getReg_congr rfl rfl rfl rfl rfl rfl rfl r).trans (getReg_advance_wr8_reg 1 r res s)
  | m => exact memRead_advance_wr8_m 1 res s

theorem incDecFlags_incDec (kind : AcKind) (o : Operand8) (res : Byte) (s : State) :
    IncDecFlags kind (opnd8 o s) res s (incDec kind o res s) :=
  ⟨flagsOfResult_of_eq rfl rfl rfl, rfl, rfl⟩

theorem frame_incDec (kind : AcKind) (o : Operand8) (res : Byte) (s : State) :
    Frame (operandRegisters o) [.z, .s, .p, .ac] (operandAddresses o s) s (incDec kind o res s) :=
  frame_with_flags (frame_advance_wr8 1 o res s) (keepsFlags_of_cy_eq rfl)

/-- The effect of INR and DCR on any operand, as the rules of both state it (R85 to R88). -/
theorem incDec_effect (kind : AcKind) (o : Operand8) (res : Byte) (s : State) :
    opnd8 o (incDec kind o res s) = res ∧ IncDecFlags kind (opnd8 o s) res s (incDec kind o res s) ∧
      (incDec kind o res s).pc = s.pc + 1 ∧
      Frame (operandRegisters o) [.z, .s, .p, .ac] (operandAddresses o s) s (incDec kind o res s) :=
  ⟨opnd8_incDec kind o res s, incDecFlags_incDec kind o res s, incDec_pc kind o res s, frame_incDec kind o res s⟩

/-- Settles O23: the operand of INR is a register. -/
theorem incrementRegister : Obligations.IncrementRegister := by
  intro r s
  obtain ⟨i, hdecode, hexec⟩ := exists_inr_instr (.reg r)
  exact ⟨i, hdecode, _, hexec s, incDec_effect .inr (.reg r) _ s⟩

/-- Settles O24: the operand of INR is M. -/
theorem incrementMemory : Obligations.IncrementMemory := by
  intro s
  obtain ⟨i, hdecode, hexec⟩ := exists_inr_instr .m
  exact ⟨i, hdecode, _, hexec s, incDec_effect .inr .m _ s⟩

/-- Settles O25: the operand of DCR is a register. -/
theorem decrementRegister : Obligations.DecrementRegister := by
  intro r s
  obtain ⟨i, hdecode, hexec⟩ := exists_dcr_instr (.reg r)
  exact ⟨i, hdecode, _, hexec s, incDec_effect .dcr (.reg r) _ s⟩

/-- Settles O26: the operand of DCR is M. -/
theorem decrementMemory : Obligations.DecrementMemory := by
  intro s
  obtain ⟨i, hdecode, hexec⟩ := exists_dcr_instr .m
  exact ⟨i, hdecode, _, hexec s, incDec_effect .dcr .m _ s⟩

theorem execAll_pair {i j : Instr} {s t u : State} (hi : exec i s = .next t) (hj : exec j t = .next u) :
    execAll [i, j] s = .next u := by
  simp only [execAll, hi, hj]

/-- Settles O27: each of the two leaves its result in the operand and hands CY through; FF + 1 = 00 and 00 - 1 = FF. -/
theorem incrementThenDecrementRestores : Obligations.IncrementThenDecrementRestores := by
  intro o s
  obtain ⟨i, hidecode, hi⟩ := exists_inr_instr o
  obtain ⟨j, hjdecode, hj⟩ := exists_dcr_instr o
  refine ⟨i, j, hidecode, hjdecode, ⟨_, execAll_pair (hi s) (hj _), ?_, rfl, ?_⟩, fun h => ?_, fun h => ?_⟩
  · rw [opnd8_incDec, opnd8_incDec, BitVec.add_sub_cancel]
  · rw [incDec_run, incDec_run]
  · have hres : opnd8 o s + 1 = 0x00 := by rw [h]; rfl
    exact ⟨incDec .inr o 0x00 s, hres ▸ hi s, opnd8_incDec .inr o _ s, rfl, incDec_run .inr o _ s⟩
  · have hres : opnd8 o s - 1 = 0xFF := by rw [h]; rfl
    exact ⟨incDec .dcr o 0xFF s, hres ▸ hj s, opnd8_incDec .dcr o _ s, rfl, incDec_run .dcr o _ s⟩

/-! ### INX and DCX -/

@[simp] theorem getRp16_advance_setRp16 (p : Rp16) (len v : Word) (s : State) :
    getRp16 p (advance len (setRp16 p v s)) = v := by
  cases p with
  | sp => rfl
  | _ => exact joinBytes_high_low v

theorem keepsRegisters_advance_setRp16 (p : Rp16) (len v : Word) (s : State) :
    KeepsRegisters (rp16Registers p) s (advance len (setRp16 p v s)) :=
  fun r hr => (getReg_advance r len _).trans (getReg_setRp16_ne hr v s)

theorem keepsMemory_advance_setRp16 (p : Rp16) (len v : Word) (s : State) :
    KeepsMemory [] s (advance len (setRp16 p v s)) :=
  keepsMemory_of_mem_eq (setRp16_mem p v s) []

theorem keepsControl_advance_setRp16 (p : Rp16) (len v : Word) (s : State) :
    KeepsControl s (advance len (setRp16 p v s)) :=
  ⟨setRp16_inte p v s, setRp16_faultOpcode p v s, setRp16_faultPc p v s⟩

@[simp] theorem inx_pc (p : Rp16) (s : State) : (inx p s).pc = s.pc + 1 := congrArg (· + 1) (setRp16_pc p _ s)

@[simp] theorem dcx_pc (p : Rp16) (s : State) : (dcx p s).pc = s.pc + 1 := congrArg (· + 1) (setRp16_pc p _ s)

theorem inx_sp (p : Rp16) (s : State) : (inx p s).sp = if p = .sp then s.sp + 1 else s.sp := by cases p <;> rfl

theorem dcx_sp (p : Rp16) (s : State) : (dcx p s).sp = if p = .sp then s.sp - 1 else s.sp := by cases p <;> rfl

/-- Settles O28: INX and DCX write their pair and PC. -/
theorem incrementAndDecrementPair : Obligations.IncrementAndDecrementPair := by
  intro p s
  obtain ⟨i, hidecode, hi⟩ := exists_instr_of_form (f := .inx p) (by cases p <;> rfl)
  obtain ⟨j, hjdecode, hj⟩ := exists_instr_of_form (f := .dcx p) (by cases p <;> rfl)
  refine ⟨⟨i, hidecode, _, hi s, ?_⟩, ⟨j, hjdecode, _, hj s, ?_⟩⟩
  · exact ⟨getRp16_advance_setRp16 p 1 _ s, inx_pc p s, inx_sp p s, setRp16_flags p _ s, setRp16_run p _ s,
      keepsRegisters_advance_setRp16 p 1 _ s, keepsMemory_advance_setRp16 p 1 _ s, keepsControl_advance_setRp16 p 1 _ s⟩
  · exact ⟨getRp16_advance_setRp16 p 1 _ s, dcx_pc p s, dcx_sp p s, setRp16_flags p _ s, setRp16_run p _ s,
      keepsRegisters_advance_setRp16 p 1 _ s, keepsMemory_advance_setRp16 p 1 _ s, keepsControl_advance_setRp16 p 1 _ s⟩

/-! ### DAD -/

/-- The 32 bits of the sum hold it whole. -/
theorem dadSum_toNat (p : Rp16) (s : State) : (dadSum p s).toNat = (getPair .hl s).toNat + (getRp16 p s).toNat := by
  have hhl := (getPair .hl s).isLt
  have hp := (getRp16 p s).isLt
  rw [dadSum, BitVec.toNat_add, BitVec.toNat_setWidth_of_le (by decide), BitVec.toNat_setWidth_of_le (by decide)]
  omega

/-- A 17-bit value is its low 16 bits and the bit above them. -/
theorem carry_and_low_word {n : Nat} (h : n < 2 ^ 17) : 65536 * (decide (0xFFFF < n)).toNat + n % 65536 = n := by
  by_cases hn : 0xFFFF < n
  · rw [decide_eq_true hn, Bool.toNat_true]
    omega
  · rw [decide_eq_false hn, Bool.toNat_false]
    omega

theorem dad_cy (p : Rp16) (s : State) : (dad p s).flags.cy = decide (0xFFFF < (dadSum p s).toNat) := rfl

theorem getPair_hl_dad (p : Rp16) (s : State) : getPair .hl (dad p s) = (dadSum p s).setWidth 16 :=
  getRp16_advance_setRp16 .hl 1 _ (setCy _ s)

/-- DAD is a write of the pair HL with another CY. -/
theorem frame_dad (p : Rp16) (s : State) : Frame [.h, .l] [.cy] [] s (dad p s) := by
  have hpair : Frame [.h, .l] [] [] s (advance 1 (setRp16 .hl ((dadSum p s).setWidth 16) s)) :=
    ⟨keepsRegisters_advance_setRp16 .hl 1 _ s, keepsFlags_of_eq rfl [], keepsMemory_advance_setRp16 .hl 1 _ s,
      keepsControl_advance_setRp16 .hl 1 _ s, rfl, rfl⟩
  have hframe := frame_with_flags (f := (dad p s).flags) hpair (keepsFlags_of_flags_with_cy rfl)
  exact hframe

/-- Settles O29: HL takes the low 16 bits of the sum and CY the bit above them. -/
theorem doubleRegisterAdd : Obligations.DoubleRegisterAdd := by
  intro p s
  obtain ⟨i, hdecode, hexec⟩ := exists_instr_of_form (f := .dad p) (by cases p <;> rfl)
  refine ⟨i, hdecode, dad p s, hexec s, ?_, rfl, frame_dad p s⟩
  have hhl := (getPair .hl s).isLt
  have hp := (getRp16 p s).isLt
  rw [dad_cy, getPair_hl_dad, BitVec.toNat_setWidth, dadSum_toNat]
  exact carry_and_low_word (by omega)

end Sys2Proof.Machine
end

section
/-! PROOFS. The identities of accumulator arithmetic over exact integers (R106): the 16 bits of a raw result hold the exact sum
as a natural number and the exact difference as a signed one, and CY with A is that number again. -/

namespace Sys2Proof.Machine

/-! ### The exact value of a raw result -/

/-- The 16 bits of a raw sum hold it whole. -/
theorem rawSum_toNat (a b : Byte) (cin : Bool) : (rawSum a b cin).toNat = a.toNat + b.toNat + cin.toNat := by
  have ha := a.isLt
  have hb := b.isLt
  have hcin := cin.toNat_le
  rw [rawSum, BitVec.toNat_add, BitVec.toNat_add, BitVec.toNat_setWidth_of_le (by decide),
    BitVec.toNat_setWidth_of_le (by decide), BitVec.toNat_setWidth_of_le (by decide), BitVec.toNat_ofBool]
  omega

/-- A raw difference, read as a signed number, is the difference of the integers (D27). -/
theorem rawDifference_toInt (a b : Byte) (cin : Bool) :
    (rawDifference a b cin).toInt = a.toNat - b.toNat - cin.toNat := by
  have ha := a.isLt
  have hb := b.isLt
  have hcin := cin.toNat_le
  rw [rawDifference, BitVec.toInt_eq_toNat_cond, BitVec.toNat_sub, BitVec.toNat_sub, BitVec.toNat_setWidth_of_le (by decide),
    BitVec.toNat_setWidth_of_le (by decide), BitVec.toNat_setWidth_of_le (by decide), BitVec.toNat_ofBool]
  omega

/-! ### CY with the low byte -/

theorem highByte_ne_zero_iff (v : Word) : highByte v ≠ 0x00 ↔ 256 ≤ v.toNat := by
  rw [Ne, ← BitVec.toNat_inj, highByte_toNat, show (0x00 : Byte).toNat = 0 from rfl]
  omega

/-- CY as a number: 1 when the raw result does not fit a byte, 0 when it does (R24). -/
theorem carry_toNat (raw : Word) : (decide (highByte raw ≠ 0x00)).toNat = if 256 ≤ raw.toNat then 1 else 0 := by
  rw [Bool.toNat, Bool.cond_decide, if_congr (highByte_ne_zero_iff raw) rfl rfl]

/-- A raw result of 9 bits is its low byte and CY above it. -/
theorem carry_and_lowByte {raw : Word} (h : raw.toNat < 512) :
    256 * (decide (highByte raw ≠ 0x00)).toNat + (lowByte raw).toNat = raw.toNat := by
  rw [carry_toNat, lowByte_toNat]
  split <;> omega

/-- A raw result of 9 bits, read as a signed number, is its low byte less 256 when CY, the borrow, is set (D27). -/
theorem lowByte_sub_borrow {raw : Word} (hlow : -256 ≤ raw.toInt) (hhigh : raw.toInt < 256) :
    ((lowByte raw).toNat : Int) - 256 * (decide (highByte raw ≠ 0x00)).toNat = raw.toInt := by
  rw [BitVec.toInt_eq_toNat_cond] at hlow hhigh ⊢
  rw [carry_toNat, lowByte_toNat]
  split <;> omega

/-! ### The identities, for every operand byte and either carry-in -/

theorem carry_and_lowByte_rawSum (a b : Byte) (cin : Bool) :
    256 * (decide (highByte (rawSum a b cin) ≠ 0x00)).toNat + (lowByte (rawSum a b cin)).toNat =
      a.toNat + b.toNat + cin.toNat := by
  have hsum := rawSum_toNat a b cin
  have ha := a.isLt
  have hb := b.isLt
  have hcin := cin.toNat_le
  rw [carry_and_lowByte (by omega), hsum]

theorem lowByte_sub_borrow_rawDifference (a b : Byte) (cin : Bool) :
    ((lowByte (rawDifference a b cin)).toNat : Int) - 256 * (decide (highByte (rawDifference a b cin) ≠ 0x00)).toNat =
      a.toNat - b.toNat - cin.toNat := by
  have hdifference := rawDifference_toInt a b cin
  have ha := a.isLt
  have hb := b.isLt
  have hcin := cin.toNat_le
  rw [lowByte_sub_borrow (by omega) (by omega), hdifference]

theorem add_exact (b : Byte) (s : State) :
    256 * (aluEffect .add b s).flags.cy.toNat + (aluEffect .add b s).a.toNat = s.a.toNat + b.toNat :=
  carry_and_lowByte_rawSum s.a b false

theorem adc_exact (b : Byte) (s : State) :
    256 * (aluEffect .adc b s).flags.cy.toNat + (aluEffect .adc b s).a.toNat = s.a.toNat + b.toNat + s.flags.cy.toNat :=
  carry_and_lowByte_rawSum s.a b s.flags.cy

theorem sub_exact (b : Byte) (s : State) :
    ((aluEffect .sub b s).a.toNat : Int) - 256 * (aluEffect .sub b s).flags.cy.toNat = s.a.toNat - b.toNat :=
  (lowByte_sub_borrow_rawDifference s.a b false).trans (Int.sub_zero _)

theorem sbb_exact (b : Byte) (s : State) :
    ((aluEffect .sbb b s).a.toNat : Int) - 256 * (aluEffect .sbb b s).flags.cy.toNat =
      s.a.toNat - b.toNat - s.flags.cy.toNat :=
  lowByte_sub_borrow_rawDifference s.a b s.flags.cy

/-- CMP is SUB but for A and for AC, which has a kind of its own in AC_RULE (R103, R106). -/
theorem cmp_eq_sub_but_a_ac (b : Byte) (s : State) :
    aluEffect .cmp b s =
      { aluEffect .sub b s with
        a := s.a
        flags := { (aluEffect .sub b s).flags with ac := auxCarry .cmp s.a b false s } } := rfl

/-- Settles O33: CY and A are the exact sum or difference that the raw result holds, and CMP is SUB but for A and AC. -/
theorem arithmeticIdentities : Obligations.ArithmeticIdentities := by
  intro src s
  obtain ⟨add, hadd, eadd⟩ := exists_alu_instr .add src
  obtain ⟨adc, hadc, eadc⟩ := exists_alu_instr .adc src
  obtain ⟨sub, hsub, esub⟩ := exists_alu_instr .sub src
  obtain ⟨sbb, hsbb, esbb⟩ := exists_alu_instr .sbb src
  obtain ⟨cmp, hcmp, ecmp⟩ := exists_alu_instr .cmp src
  have hcompare := cmp_eq_sub_but_a_ac (opnd8 src s) s
  refine ⟨add, adc, sub, sbb, cmp, _, _, _, _, _, hadd, eadd s, hadc, eadc s, hsub, esub s, hsbb, esbb s, hcmp, ecmp s,
    add_exact _ s, adc_exact _ s, sub_exact _ s, sbb_exact _ s, ?_⟩
  rw [hcompare]
  exact ⟨rfl, rfl, rfl, rfl, rfl⟩

end Sys2Proof.Machine
end

section
/-! PROOFS. The rotates and the complements (R120 to R124, R161, R163): RLC and RRC rotate A, RAL and RAR the nine bits of CY
and A, and a rotation by one place, as often as there are bits, is no rotation. -/

namespace Sys2Proof.Machine

/-! ### Rotation by one place, of any width -/

section
variable {w : Nat}

theorem getLsbD_rotateRight_one {i : Nat} (x : BitVec w) (hi : i < w) :
    (x.rotateRight 1).getLsbD i = x.getLsbD ((i + 1) % w) := by
  obtain rfl | hw : w = 1 ∨ 1 < w := by omega
  · simp [Nat.lt_one_iff.mp hi]
  · rw [BitVec.getLsbD_rotateRight, Nat.mod_eq_of_lt hw]
    obtain hlast | rfl : i < w - 1 ∨ i = w - 1 := by omega
    · simp [hlast, Nat.mod_eq_of_lt (Nat.add_lt_of_lt_sub hlast), Nat.add_comm]
    · simp [hi, Nat.sub_add_cancel hw.le]

/-- The lowest bit enters at the top. -/
theorem rotateRight_one_concat (x : BitVec w) (b : Bool) : (x.concat b).rotateRight 1 = x.cons b := by
  apply BitVec.eq_of_getLsbD_eq
  intro i hi
  rw [getLsbD_rotateRight_one _ hi, BitVec.getLsbD_cons]
  obtain h | rfl : i < w ∨ i = w := by omega
  · rw [Nat.mod_eq_of_lt (Nat.succ_lt_succ h), BitVec.getLsbD_concat_succ, if_neg h.ne]
  · rw [Nat.mod_self, BitVec.getLsbD_concat_zero, if_pos rfl]

theorem cons_extractLsb'_eq (x : BitVec (w + 1)) : (x.extractLsb' 0 w).cons (x.getLsbD w) = x := by
  rw [← BitVec.setWidth_eq_extractLsb' (Nat.le_succ w), ← BitVec.setWidth_succ, BitVec.setWidth_eq]

/-- The highest bit enters at the bottom. -/
theorem rotateLeft_one_cons (x : BitVec w) (b : Bool) : (x.cons b).rotateLeft 1 = x.concat b := by
  apply BitVec.eq_of_getLsbD_eq
  intro i hi
  obtain rfl | hw : w = 0 ∨ 0 < w := by omega
  · obtain rfl : i = 0 := by omega
    simp [BitVec.getElem_cons]
  · rw [BitVec.getLsbD_rotateLeft, Nat.mod_eq_of_lt (Nat.succ_lt_succ hw)]
    cases i with
    | zero => simp [BitVec.getElem_cons]
    | succ i =>
      have hi' : i < w := Nat.lt_of_succ_lt_succ hi
      simp [BitVec.getLsbD_cons, hi', hi'.ne]

theorem rotateRight_one_rotateLeft_one (x : BitVec (w + 1)) : (x.rotateLeft 1).rotateRight 1 = x := by
  rw [← cons_extractLsb'_eq x, rotateLeft_one_cons, rotateRight_one_concat]

theorem getLsbD_iterate_rotateRight_one {i : Nat} (x : BitVec w) (hi : i < w) (n : Nat) :
    ((BitVec.rotateRight · 1)^[n] x).getLsbD i = x.getLsbD ((i + n) % w) := by
  induction n generalizing x with
  | zero => rw [Nat.add_zero, Nat.mod_eq_of_lt hi, Function.iterate_zero_apply]
  | succ n ih =>
    rw [Function.iterate_succ_apply, ih, getLsbD_rotateRight_one _ (Nat.mod_lt _ (by omega)), Nat.mod_add_mod,
      Nat.add_assoc]

theorem iterate_rotateRight_one_width (x : BitVec w) : (BitVec.rotateRight · 1)^[w] x = x := by
  apply BitVec.eq_of_getLsbD_eq
  intro i hi
  rw [getLsbD_iterate_rotateRight_one x hi, Nat.add_mod_right, Nat.mod_eq_of_lt hi]

/-- As many rotations to the right undo those to the left, and are no rotation. -/
theorem iterate_rotateLeft_one_width (x : BitVec (w + 1)) : (BitVec.rotateLeft · 1)^[w + 1] x = x := by
  have hundo : Function.LeftInverse (α := BitVec (w + 1)) (BitVec.rotateRight · 1) (BitVec.rotateLeft · 1) :=
    rotateRight_one_rotateLeft_one
  exact (iterate_rotateRight_one_width _).symm.trans (hundo.iterate (w + 1) x)

/-! ### A bit shifted in -/

theorem cons_concat (x : BitVec w) (high low : Bool) : (x.concat low).cons high = (x.cons high).concat low := by
  apply BitVec.eq_of_getLsbD_eq
  intro i _
  cases i with
  | zero =>
    rw [BitVec.getLsbD_cons, if_neg (Nat.succ_ne_zero w).symm, BitVec.getLsbD_concat_zero, BitVec.getLsbD_concat_zero]
  | succ i => simp only [BitVec.getLsbD_cons, BitVec.getLsbD_concat_succ, Nat.add_right_cancel_iff]

theorem concat_extractLsb'_eq_or (x : BitVec (w + 1)) (b : Bool) :
    (x.extractLsb' 0 w).concat b = (x <<< 1) ||| (BitVec.ofBool b).setWidth (w + 1) := by
  apply BitVec.eq_of_getLsbD_eq
  intro i hi
  cases i with
  | zero => simp
  | succ i =>
    have hi' : i < w := Nat.lt_of_succ_lt_succ hi
    simp [hi', hi'.trans (Nat.lt_succ_self w)]

theorem cons_extractLsb'_eq_or (x : BitVec (w + 1)) (b : Bool) :
    (x.extractLsb' 1 w).cons b = (x >>> 1) ||| ((BitVec.ofBool b).setWidth (w + 1)) <<< w := by
  apply BitVec.eq_of_getLsbD_eq
  intro i hi
  rw [BitVec.getLsbD_cons]
  obtain h | rfl : i < w ∨ i = w := by omega
  · simp [h, h.ne]
  · simp

end

/-! ### The rotates as rotations of A and of CY with A -/

/-- The nine bits that RAL and RAR rotate, CY at the top. -/
def carryAndA (s : State) : BitVec 9 := s.a.cons s.flags.cy

theorem shiftInLow_eq_concat (a : Byte) (low : Bool) : shiftInLow a low = (a.extractLsb' 0 7).concat low := rfl

theorem shiftInHigh_eq_cons (a : Byte) (high : Bool) : shiftInHigh a high = (a.extractLsb' 1 7).cons high := rfl

theorem concat_extractLsb'_bit0 (a : Byte) : (a.extractLsb' 1 7).concat (a.getLsbD 0) = a :=
  BitVec.concat_extractLsb'_getLsb

theorem shiftInLow_eq_or (a : Byte) (low : Bool) : shiftInLow a low = (a <<< 1) ||| (if low then 0x01 else 0x00) := by
  rw [shiftInLow_eq_concat, concat_extractLsb'_eq_or]
  cases low <;> rfl

theorem shiftInHigh_eq_or (a : Byte) (high : Bool) :
    shiftInHigh a high = (a >>> 1) ||| (if high then 0x80 else 0x00) := by
  rw [shiftInHigh_eq_cons, cons_extractLsb'_eq_or]
  cases high <;> rfl

theorem rlc_a (s : State) : (rlc s).a = s.a.rotateLeft 1 := by
  have hrotate := rotateLeft_one_cons (s.a.extractLsb' 0 7) (s.a.getLsbD 7)
  rw [cons_extractLsb'_eq] at hrotate
  exact hrotate.symm

theorem rrc_a (s : State) : (rrc s).a = s.a.rotateRight 1 := by
  have hrotate := rotateRight_one_concat (s.a.extractLsb' 1 7) (s.a.getLsbD 0)
  rw [concat_extractLsb'_bit0] at hrotate
  exact hrotate.symm

theorem carryAndA_ral (s : State) : carryAndA (ral s) = (carryAndA s).rotateLeft 1 := by
  calc carryAndA (ral s) = (((s.a.extractLsb' 0 7).concat s.flags.cy).cons (s.a.getLsbD 7)) := rfl
    _ = s.a.concat s.flags.cy := by rw [cons_concat, cons_extractLsb'_eq]
    _ = (carryAndA s).rotateLeft 1 := (rotateLeft_one_cons s.a s.flags.cy).symm

theorem carryAndA_rar (s : State) : carryAndA (rar s) = (carryAndA s).rotateRight 1 := by
  calc carryAndA (rar s) = ((s.a.extractLsb' 1 7).cons s.flags.cy).cons (s.a.getLsbD 0) := rfl
    _ = (((s.a.extractLsb' 1 7).cons s.flags.cy).concat (s.a.getLsbD 0)).rotateRight 1 :=
      (rotateRight_one_concat _ _).symm
    _ = (carryAndA s).rotateRight 1 := by rw [← cons_concat, concat_extractLsb'_bit0, carryAndA]

/-- A rotate writes A and CY, moves PC on, and touches nothing else (R124). -/
theorem frame_rotateEffect (op : RotateOp) (s : State) : Frame [.a] [.cy] [] s (rotateEffect op s) := by
  obtain ⟨cy, hflags⟩ := rotateEffect_flags op s
  exact ⟨fun r hr => getReg_rotateEffect_ne hr op s, keepsFlags_of_flags_with_cy hflags,
    keepsMemory_of_mem_eq (rotateEffect_mem op s) [],
    ⟨applyForm_inte (.rotate op) s, rotateEffect_faultOpcode op s, rotateEffect_faultPc op s⟩, rotateEffect_run op s,
    rotateEffect_sp op s⟩

/-- Settles O35: RLC and RRC rotate A, which is two shifts; RAL and RAR shift A and put CY in the place left free. CY is the
bit shifted out. -/
theorem rotates : Obligations.Rotates := by
  refine fun s => ⟨⟨fun _ => rfl, rlc s, rfl, rlc_a s, rfl, rfl, frame_rotateEffect .rlc s⟩,
    ⟨fun _ => rfl, rrc s, rfl, rrc_a s, rfl, rfl, frame_rotateEffect .rrc s⟩,
    ⟨fun _ => rfl, ral s, rfl, ?_, rfl, rfl, frame_rotateEffect .ral s⟩,
    ⟨fun _ => rfl, rar s, rfl, ?_, rfl, rfl, frame_rotateEffect .rar s⟩⟩
  · exact shiftInLow_eq_or s.a s.flags.cy
  · exact shiftInHigh_eq_or s.a s.flags.cy

/-! ### Cycles -/

/-- One instruction over and over is the operation of its form iterated. -/
theorem execAll_replicate (i : Instr) (n : Nat) (s : State) :
    execAll (List.replicate n i) s = .next ((applyForm i.form)^[n] s) := by
  induction n generalizing s with
  | zero => rfl
  | succ n ih => simp only [List.replicate_succ, execAll, exec_eq_applyForm, ih, Function.iterate_succ_apply]

theorem iterate_rotateEffect_flags (op : RotateOp) (n : Nat) (s : State) :
    ∃ cy, ((rotateEffect op)^[n] s).flags = { s.flags with cy := cy } := by
  induction n generalizing s with
  | zero => exact ⟨s.flags.cy, rfl⟩
  | succ n ih =>
    obtain ⟨cy, hfirst⟩ := rotateEffect_flags op s
    obtain ⟨cy', hrest⟩ := ih (rotateEffect op s)
    exact ⟨cy', by rw [Function.iterate_succ_apply, hrest, hfirst]⟩

/-- Where no flag but CY has changed, CY with A determines A and all the flags. -/
theorem a_and_flags_eq_of_carryAndA_eq {s t : State} (hflags : ∃ cy, t.flags = { s.flags with cy := cy })
    (h : carryAndA t = carryAndA s) : t.a = s.a ∧ t.flags = s.flags := by
  obtain ⟨cy, hflags⟩ := hflags
  have ha : t.a = s.a := by simpa [carryAndA] using congrArg (BitVec.setWidth 8) h
  have hcy : t.flags.cy = s.flags.cy := by simpa [carryAndA] using congrArg BitVec.msb h
  rw [hflags] at hcy ⊢
  exact ⟨ha, by rw [show cy = s.flags.cy from hcy]⟩

/-- A rotate whose effect on the nine bits of CY and A is one of period nine restores A and the flags in nine. -/
theorem iterate_rotateEffect_nine {op : RotateOp} {rotate : BitVec 9 → BitVec 9}
    (hop : Function.Semiconj carryAndA (rotateEffect op) rotate) (hcycle : ∀ x, rotate^[9] x = x) (s : State) :
    ((rotateEffect op)^[9] s).a = s.a ∧ ((rotateEffect op)^[9] s).flags = s.flags :=
  a_and_flags_eq_of_carryAndA_eq (iterate_rotateEffect_flags op 9 s)
    ((hop.iterate_right 9 s).trans (hcycle (carryAndA s)))

theorem iterate_rlc_a (s : State) : (rlc^[8] s).a = s.a := by
  have hrotate : Function.Semiconj State.a rlc (BitVec.rotateLeft · 1) := rlc_a
  exact (hrotate.iterate_right 8 s).trans (iterate_rotateLeft_one_width s.a)

theorem iterate_rrc_a (s : State) : (rrc^[8] s).a = s.a := by
  have hrotate : Function.Semiconj State.a rrc (BitVec.rotateRight · 1) := rrc_a
  exact (hrotate.iterate_right 8 s).trans (iterate_rotateRight_one_width s.a)

theorem iterate_ral (s : State) : (ral^[9] s).a = s.a ∧ (ral^[9] s).flags = s.flags :=
  iterate_rotateEffect_nine (op := .ral) (rotate := (BitVec.rotateLeft · 1)) carryAndA_ral iterate_rotateLeft_one_width s

theorem iterate_rar (s : State) : (rar^[9] s).a = s.a ∧ (rar^[9] s).flags = s.flags :=
  iterate_rotateEffect_nine (op := .rar) (rotate := (BitVec.rotateRight · 1)) carryAndA_rar iterate_rotateRight_one_width s

theorem rrc_rlc_a (s : State) : (rrc (rlc s)).a = s.a := by
  rw [rrc_a, rlc_a, rotateRight_one_rotateLeft_one]

theorem rrc_rlc_cy (s : State) : (rrc (rlc s)).flags.cy = s.a.getLsbD 7 :=
  BitVec.getLsbD_concat_zero

theorem rar_ral (s : State) : (rar (ral s)).a = s.a ∧ (rar (ral s)).flags = s.flags := by
  refine a_and_flags_eq_of_carryAndA_eq ⟨_, rfl⟩ ?_
  rw [carryAndA_rar, carryAndA_ral, rotateRight_one_rotateLeft_one]

theorem cma_cma_a (s : State) : (cma (cma s)).a = s.a := BitVec.not_not

theorem cmc_cmc_flags (s : State) : (cmc (cmc s)).flags = s.flags := by
  simp [cmc]

/-- Settles O36: eight rotations of the eight bits of A, nine of the nine bits of CY and A, and a rotation to the left and
then one to the right, are none; the complements are involutions. -/
theorem rotatesAndComplementsCycle : Obligations.RotatesAndComplementsCycle := fun s =>
  ⟨⟨_, execAll_replicate .rlc 8 s, iterate_rlc_a s⟩, ⟨_, execAll_replicate .rrc 8 s, iterate_rrc_a s⟩,
    ⟨_, execAll_replicate .ral 9 s, iterate_ral s⟩, ⟨_, execAll_replicate .rar 9 s, iterate_rar s⟩,
    ⟨_, execAll_pair rfl rfl, rrc_rlc_a s, rrc_rlc_cy s⟩, ⟨_, execAll_pair rfl rfl, rar_ral s⟩,
    ⟨_, execAll_pair rfl rfl, cma_cma_a s, rfl⟩, ⟨_, execAll_pair rfl rfl, rfl, cmc_cmc_flags s⟩⟩

end Sys2Proof.Machine
end

section
/-! PROOFS. MVI to a register and to M, and LXI (R125 to R127). -/

namespace Sys2Proof.Machine

/-! ### MVI -/

/-- Every `00 ddd 110` byte decodes, with the byte after it, to the MVI of its operand (R61). -/
theorem exists_mvi_instr (dst : Operand8) (d8 : Byte) :
    ∃ i, DecodesTo [0b00#2 ++ dst.code ++ 0b110#3, d8] i ∧ ∀ s, exec i s = .next (mvi dst d8 s) := by
  cases dst with
  | reg r => cases r <;> exact ⟨_, fun _ => rfl, fun _ => rfl⟩
  | m => exact ⟨_, fun _ => rfl, fun _ => rfl⟩

@[simp] theorem mvi_pc (dst : Operand8) (d8 : Byte) (s : State) : (mvi dst d8 s).pc = s.pc + 2 := by
  rw [mvi, advance_pc, wr8_pc]

/-- Settles O38: the operand of MVI is a register. -/
theorem moveImmediateToRegister : Obligations.MoveImmediateToRegister := by
  intro r d8 s
  obtain ⟨i, hdecode, hexec⟩ := exists_mvi_instr (.reg r) d8
  exact ⟨i, hdecode, _, hexec s, getReg_advance_wr8_reg 2 r d8 s, mvi_pc (.reg r) d8 s, frame_advance_wr8 2 (.reg r) d8 s⟩

/-- Settles O39: the operand of MVI is M, at the address that H and L hold. -/
theorem moveImmediateToMemory : Obligations.MoveImmediateToMemory := by
  intro d8 s
  obtain ⟨i, hdecode, hexec⟩ := exists_mvi_instr .m d8
  exact ⟨i, hdecode, _, hexec s, memRead_advance_wr8_m 2 d8 s, mvi_pc .m d8 s, frame_advance_wr8 2 .m d8 s⟩

/-! ### LXI -/

/-- Every `00 rp 0001` byte decodes, with the two bytes after it, to the LXI of its operand; the byte next to the opcode is the
low one (R46, R61). -/
theorem exists_lxi_instr (p : Rp16) (low high : Byte) :
    ∃ i, DecodesTo [0b00#2 ++ p.code ++ 0b0001#4, low, high] i ∧
      ∀ s, exec i s = .next (lxi p (joinBytes high low) s) := by
  cases p <;> exact ⟨_, fun _ => rfl, fun _ => rfl⟩

@[simp] theorem lxi_pc (p : Rp16) (d16 : Word) (s : State) : (lxi p d16 s).pc = s.pc + 3 := by
  rw [lxi, advance_pc, setRp16_pc]

/-- Settles O40: LXI writes its pair and PC. -/
theorem loadImmediatePair : Obligations.LoadImmediatePair := by
  intro p low high s
  obtain ⟨i, hdecode, hexec⟩ := exists_lxi_instr p low high
  have hvalue : getRp16 p (lxi p (joinBytes high low) s) = joinBytes high low := getRp16_advance_setRp16 p 3 _ s
  exact ⟨i, hdecode, _, hexec s, (congrArg BitVec.toNat hvalue).trans (joinBytes_toNat high low),
    fun hp => setRp16_sp_of_ne hp _ s, lxi_pc p _ s, setRp16_flags p _ s, setRp16_run p _ s,
    keepsRegisters_advance_setRp16 p 3 _ s, keepsMemory_advance_setRp16 p 3 _ s, keepsControl_advance_setRp16 p 3 _ s⟩

end Sys2Proof.Machine
end

section
/-! PROOFS. STA and LDA, SHLD and LHLD, STAX and LDAX (R130 to R135). -/

namespace Sys2Proof.Machine

/-! ### The frame of a store and of a load -/

/-- A store, and PC moved past the instruction, touch nothing but the bytes stored at and PC. -/
theorem frame_advance_of_keepsMemory {stored : List Word} {mem : Memory} {s : State} (len : Word)
    (h : KeepsMemory stored s { s with mem := mem }) : Frame [] [] stored s (advance len { s with mem := mem }) := by
  refine ⟨fun r _ => ?_, keepsFlags_of_eq rfl [], fun addr haddr => ?_, ⟨rfl, rfl, rfl⟩, rfl, rfl⟩
  · exact (getReg_advance r len _).trans (getReg_congr rfl rfl rfl rfl rfl rfl rfl r)
  · exact (memRead_congr (advance_mem len _) addr).trans (h addr haddr)

/-- A load of HL, and PC moved past the instruction, touch nothing but H, L and PC. -/
theorem frame_advance_setPair_hl (len v : Word) (s : State) :
    Frame [.h, .l] [] [] s (advance len (setPair .hl v s)) :=
  ⟨keepsRegisters_advance_setRp16 .hl len v s, keepsFlags_of_eq rfl [], keepsMemory_advance_setRp16 .hl len v s,
    keepsControl_advance_setRp16 .hl len v s, rfl, rfl⟩

/-! ### A to and from an address, direct or in a pair -/

/-- What STA and STAX share: A is stored at the address, and only that byte and PC change. -/
theorem storeA_effect (len addr : Word) (s : State) :
    memRead addr (advance len (memWrite addr s.a s)) = s.a ∧ (advance len (memWrite addr s.a s)).pc = s.pc + len ∧
      Frame [] [] [addr] s (advance len (memWrite addr s.a s)) := by
  refine ⟨?_, rfl, frame_advance_of_keepsMemory len (keepsMemory_memWrite addr s.a s)⟩
  rw [memRead_congr (advance_mem len _), memRead_memWrite, if_pos rfl]

/-- What LDA and LDAX share: A takes a byte, and only A and PC change. -/
theorem loadA_effect (len : Word) (v : Byte) (s : State) :
    (advance len (setReg .a v s)).a = v ∧ (advance len (setReg .a v s)).pc = s.pc + len ∧
      Frame [.a] [] [] s (advance len (setReg .a v s)) :=
  ⟨rfl, rfl, frame_advance_wr8 len (.reg .a) v s⟩

/-- Settles O41: 32 is STA and 3A is LDA, both of the address whose low byte is next to the opcode (R46). -/
theorem storeAndLoadAccumulatorDirect : Obligations.StoreAndLoadAccumulatorDirect := by
  intro low high s
  refine ⟨⟨.sta (joinBytes high low), fun _ => rfl, sta (joinBytes high low) s, rfl, ?_⟩,
    ⟨.lda (joinBytes high low), fun _ => rfl, lda (joinBytes high low) s, rfl, ?_⟩⟩
  · exact storeA_effect 3 (joinBytes high low) s
  · exact loadA_effect 3 (memRead (joinBytes high low) s) s

/-- Settles O43: `000p0010` is STAX and `000p1010` is LDAX, both of the address that the pair holds before. -/
theorem storeAndLoadAccumulatorByPair : Obligations.StoreAndLoadAccumulatorByPair := by
  intro p s
  obtain ⟨i, hidecode, hi⟩ := exists_instr_of_form (f := .stax p) (by cases p <;> rfl)
  obtain ⟨j, hjdecode, hj⟩ := exists_instr_of_form (f := .ldax p) (by cases p <;> rfl)
  refine ⟨⟨i, hidecode, stax p s, hi s, ?_⟩, ⟨j, hjdecode, ldax p s, hj s, ?_⟩⟩
  · exact storeA_effect 1 (indexAddress p s) s
  · exact loadA_effect 1 (memRead (indexAddress p s) s) s

/-! ### HL to and from an address -/

/-- SHLD stores L at the address and H at the next one mod 2^16 (R132, D15), and only these two bytes and PC change. -/
theorem shld_effect (a16 : Word) (s : State) :
    memRead a16 (shld a16 s) = s.l ∧ memRead (a16 + 1) (shld a16 s) = s.h ∧ (shld a16 s).pc = s.pc + 3 ∧
      Frame [] [] [a16, a16 + 1] s (shld a16 s) := by
  refine ⟨?_, ?_, rfl, frame_advance_of_keepsMemory 3 (keepsMemory_memWrite2 a16 (getPair .hl s) s)⟩
  · rw [shld, memRead_congr (advance_mem 3 _), memRead_memWrite2_low, getPair, lowByte_joinBytes]
  · rw [shld, memRead_congr (advance_mem 3 _), memRead_memWrite2_high, getPair, highByte_joinBytes]

/-- LHLD loads L from the address and H from the next one mod 2^16 (R133, D15), and only H, L and PC change. -/
theorem lhld_effect (a16 : Word) (s : State) :
    (lhld a16 s).l = memRead a16 s ∧ (lhld a16 s).h = memRead (a16 + 1) s ∧ (lhld a16 s).pc = s.pc + 3 ∧
      Frame [.h, .l] [] [] s (lhld a16 s) := by
  refine ⟨?_, ?_, rfl, frame_advance_setPair_hl 3 (memRead2 a16 s) s⟩
  · rw [lhld, advance_l, setPair_hl_l, memRead2, lowByte_joinBytes]
  · rw [lhld, advance_h, setPair_hl_h, memRead2, highByte_joinBytes]

/-- Settles O42: 22 is SHLD and 2A is LHLD, both of the address whose low byte is next to the opcode (R46). -/
theorem storeAndLoadHLDirect : Obligations.StoreAndLoadHLDirect := by
  intro low high s
  refine ⟨⟨.shld (joinBytes high low), fun _ => rfl, shld (joinBytes high low) s, rfl, ?_⟩,
    ⟨.lhld (joinBytes high low), fun _ => rfl, lhld (joinBytes high low) s, rfl, ?_⟩⟩
  · exact shld_effect (joinBytes high low) s
  · exact lhld_effect (joinBytes high low) s

end Sys2Proof.Machine
end

section
/-! PROOFS. PUSH and POP of the three pairs and the PSW, and POP after PUSH (R140 to R144, R27). -/

namespace Sys2Proof.Machine

/-! ### PUSH -/

@[simp] theorem popHigh_push (p : StackPair) (s : State) : popHigh (push p s) = stackHigh p s :=
  popHigh_pushWord (stackHigh p s) (stackLow p s) s

@[simp] theorem popLow_push (p : StackPair) (s : State) : popLow (push p s) = stackLow p s :=
  popLow_pushWord (stackHigh p s) (stackLow p s) s

theorem keepsRegisters_push (p : StackPair) (s : State) : KeepsRegisters [] s (push p s) :=
  fun r _ => (getReg_advance r 1 _).trans (getReg_pushWord r (stackHigh p s) (stackLow p s) s)

theorem keepsMemory_push (p : StackPair) (s : State) : KeepsMemory [s.sp - 2, s.sp - 1] s (push p s) :=
  keepsMemory_pushWord (stackHigh p s) (stackLow p s) s

/-- Settles O44: the bytes of the operand are those `pushWord` stores, and PUSH touches nothing else but SP and PC. -/
theorem pushStoresTwoBytes : Obligations.PushStoresTwoBytes := by
  intro p s
  obtain ⟨i, hdecode, hexec⟩ := exists_instr_of_form (f := .push p) (by cases p <;> rfl)
  refine ⟨i, hdecode, push p s, hexec s, ?_, rfl, rfl, rfl, rfl, keepsRegisters_push p s, keepsMemory_push p s,
    rfl, rfl, rfl⟩
  have hhigh : memRead (s.sp - 1) (push p s) = stackHigh p s := by
    rw [← sub_two_add_one]
    exact popHigh_push p s
  have hlow : memRead (s.sp - 2) (push p s) = stackLow p s := popLow_push p s
  rw [hhigh, hlow]
  cases p <;> rfl

/-! ### POP -/

@[simp] theorem pop_sp (p : StackPair) (s : State) : (pop p s).sp = s.sp + 2 := by
  rw [pop, advance_sp, setStackPair_sp, popWord_sp]

@[simp] theorem pop_pc (p : StackPair) (s : State) : (pop p s).pc = s.pc + 1 := by
  rw [pop, advance_pc, setStackPair_pc, popWord_pc]

@[simp] theorem pop_run (p : StackPair) (s : State) : (pop p s).run = s.run := by
  rw [pop, advance_run, setStackPair_run, popWord_run]

@[simp] theorem pop_mem (p : StackPair) (s : State) : (pop p s).mem = s.mem := by
  rw [pop, advance_mem, setStackPair_mem, popWord_mem]

theorem keepsRegisters_pop (p : StackPair) (s : State) : KeepsRegisters (stackPairRegisters p) s (pop p s) := by
  intro r hr
  rw [pop, getReg_advance, getReg_setStackPair_ne hr, getReg_popWord]

theorem keepsControl_pop (p : StackPair) (s : State) : KeepsControl s (pop p s) :=
  ⟨setStackPair_inte p _ _ _, setStackPair_faultOpcode p _ _ _, setStackPair_faultPc p _ _ _⟩

/-- Settles O45: the destination takes the bytes `popWord` returns, and POP touches nothing else but SP and PC. -/
theorem popLoadsTwoBytes : Obligations.PopLoadsTwoBytes := by
  intro p s
  obtain ⟨i, hdecode, hexec⟩ := exists_instr_of_form (f := .pop p) (by cases p <;> rfl)
  refine ⟨i, hdecode, pop p s, hexec s, ?_, pop_sp p s, pop_pc p s, pop_run p s, keepsRegisters_pop p s,
    keepsMemory_of_mem_eq (pop_mem p s) [], keepsControl_pop p s⟩
  cases p with
  | psw => exact ⟨rfl, rfl, rfl, rfl, rfl, rfl⟩
  | _ => exact ⟨rfl, rfl⟩

/-! ### POP after PUSH -/

/-- The five flags survive the packed byte (R27). -/
@[simp] theorem unpackFlags_packFlags (f : Flags) : unpackFlags (packFlags f) = f := by
  simp only [unpackFlags, packFlags, BitVec.getLsbD_append]
  simp

/-- The bytes of an operand, put back into it, change nothing, wherever PC and memory have gone since. -/
theorem setStackPair_stackHigh_stackLow (p : StackPair) (s : State) (pc : Word) (mem : Memory) :
    setStackPair p (stackHigh p s) (stackLow p s) { s with pc := pc, mem := mem } = { s with pc := pc, mem := mem } := by
  cases p with
  | psw => simp [setStackPair, stackHigh, stackLow]
  | _ => rfl

/-- `popWord` takes SP back to where it stood before PUSH, also across the top of memory. -/
theorem popWord_push (p : StackPair) (s : State) :
    popWord (push p s) = { s with pc := s.pc + 1, mem := (push p s).mem } := by
  simp [popWord, push, pushWord, advance, setPc]

/-- POP after PUSH of one operand leaves nothing behind but PC and the two bytes stored. -/
theorem pop_push (p : StackPair) (s : State) :
    pop p (push p s) = { s with pc := s.pc + 1 + 1, mem := (push p s).mem } := by
  rw [pop, popHigh_push, popLow_push, popWord_push, setStackPair_stackHigh_stackLow]
  rfl

/-- Settles O46: the state after the two is that before, but for PC and the two bytes PUSH stored. -/
theorem pushThenPopRestores : Obligations.PushThenPopRestores := by
  intro p s
  obtain ⟨i, hidecode, hi⟩ := exists_instr_of_form (f := .push p) (by cases p <;> rfl)
  obtain ⟨j, hjdecode, hj⟩ := exists_instr_of_form (f := .pop p) (by cases p <;> rfl)
  refine ⟨i, j, hidecode, hjdecode, _, (execAll_pair (hi s) (hj _)).trans (congrArg _ (pop_push p s)), ?_, rfl, rfl, ?_,
    keepsMemory_push p s, rfl⟩
  · exact fun r _ => getReg_congr rfl rfl rfl rfl rfl rfl rfl r
  · exact BitVec.add_assoc s.pc 1 1

end Sys2Proof.Machine
end

section
/-! PROOFS. CMA, STC and CMC (R161 to R163). -/

namespace Sys2Proof.Machine

/-- The complement of A is its difference from the byte of all ones (R161). -/
theorem cma_a (s : State) : (cma s).a = 0xFF - s.a := (BitVec.allOnes_sub_eq_not s.a).symm

/-- CMA writes A as MOV writes a register, and touches nothing else but PC. -/
theorem frame_cma (s : State) : Frame [.a] [] [] s (cma s) := frame_advance_wr8 1 (.reg .a) (~~~s.a) s

/-- CY written, and PC moved past the instruction, touch nothing but CY and PC. -/
theorem frame_advance_setCy (len : Word) (v : Bool) (s : State) : Frame [] [.cy] [] s (advance len (setCy v s)) :=
  ⟨fun r _ => (getReg_advance r len _).trans (getReg_setCy r v s), keepsFlags_of_flags_with_cy rfl,
    keepsMemory_of_mem_eq rfl [], ⟨rfl, rfl, rfl⟩, rfl, rfl⟩

/-- Settles O37: CMA subtracts A from FF; STC and CMC are one write of CY, of 1 and of its inverse. -/
theorem complementAndCarry : Obligations.ComplementAndCarry := fun s =>
  ⟨⟨fun _ => rfl, cma s, rfl, cma_a s, rfl, frame_cma s⟩,
    ⟨fun _ => rfl, stc s, rfl, rfl, rfl, frame_advance_setCy 1 true s⟩,
    ⟨fun _ => rfl, cmc s, rfl, rfl, rfl, frame_advance_setCy 1 (!s.flags.cy) s⟩⟩

end Sys2Proof.Machine
end
